-- ==== Sys2Proof/Word.lean ====
section
/-! DEFINITION. The data types of the block: bytes, and the fixed sequences of bytes that its registers hold
(00_scope.md R6, R12). A block is a sequence of lanes and no bit field (R12), so it is a vector of bytes. -/

namespace Sys2Proof

/-- One byte: a GaloisElement (R6), a lane of a block, or a byte of the bus (R100). -/
abbrev Byte := BitVec 8

/-- A Block: 16 lanes; lane 0 is the most significant byte (R6, R12). -/
abbrev Block := Vector Byte 16

/-- The Key: 32 bytes, byte 0 first (R6, R12). -/
abbrev KeyBytes := Vector Byte 32

/-- The IV: 8 bytes, byte 0 the most significant (R6, R34). -/
abbrev IvBytes := Vector Byte 8

/-- A RoundKeySchedule: exactly 10 blocks (R6, R40). -/
abbrev RoundKeys := Vector Block 10

/-- The block of 16 zero bytes. -/
def Block.zero : Block := Vector.replicate 16 0

end Sys2Proof
end

