-- ==== Sys2Proof/Syntax.lean ====
section
/-! DEFINITION. The commands of the block, whole: one constructor per row of spec/opcode_table.json
(30_encoding.md R104). A command is an opcode with the byte ARG held at its issue (R101, 10_state.md R43), so each
constructor carries that byte, also where the command ignores it (R103, R106). -/

namespace Sys2Proof

/-- A command: the opcode, and the ARG byte of its issue (bits 15:8 of the command word, R101). -/
inductive Instr where
  /-- NOP, R138. -/
  | nop (arg : Byte)
  /-- GF_ADD, R155. -/
  | gfAdd (arg : Byte)
  /-- GF_MUL, R156. -/
  | gfMul (arg : Byte)
  /-- BLK_XOR, R157. -/
  | blkXor (arg : Byte)
  /-- SUB, R173. -/
  | sub (arg : Byte)
  /-- SUB_INV, R174. -/
  | subInv (arg : Byte)
  /-- LCOMB, R200. -/
  | lcomb (arg : Byte)
  /-- RSTEP, R201. -/
  | rstep (arg : Byte)
  /-- RSTEP_INV, R202. -/
  | rstepInv (arg : Byte)
  /-- LIN, R203. -/
  | lin (arg : Byte)
  /-- LIN_INV, R204. -/
  | linInv (arg : Byte)
  /-- RCON, R225; `arg` is the constant's index. -/
  | rcon (arg : Byte)
  /-- FEISTEL, R226. -/
  | feistel (arg : Byte)
  /-- EXPAND_KEY, R227. -/
  | expandKey (arg : Byte)
  /-- ENC_BLOCK, R245. -/
  | encBlock (arg : Byte)
  /-- DEC_BLOCK, R246. -/
  | decBlock (arg : Byte)
  /-- CTR_INIT, R265. -/
  | ctrInit (arg : Byte)
  /-- CTR_CHUNK, R266; `arg` is the chunk's length. -/
  | ctrChunk (arg : Byte)
  deriving DecidableEq, Repr

/-- The operand byte of a command (R101, R103). -/
def Instr.arg : Instr → Byte
  | .nop a => a
  | .gfAdd a => a
  | .gfMul a => a
  | .blkXor a => a
  | .sub a => a
  | .subInv a => a
  | .lcomb a => a
  | .rstep a => a
  | .rstepInv a => a
  | .lin a => a
  | .linInv a => a
  | .rcon a => a
  | .feistel a => a
  | .expandKey a => a
  | .encBlock a => a
  | .decBlock a => a
  | .ctrInit a => a
  | .ctrChunk a => a

end Sys2Proof
end

