-- ==== Sys2Proof/WellFormed.lean ====
section
/-! DEFINITION. Which commands are well formed: those whose operand byte lies in the range the spec calls legal
(30_encoding.md R103). An ill-formed command decodes all the same, since ARG never selects a command (R101); its issue
is rejected by its own check (R225, R266). -/

namespace Sys2Proof

/-- The legal range of the operand byte, command by command (R103): RCON takes 1..32, CTR_CHUNK takes 1..16, every
other command ignores ARG (R106). -/
def Instr.wellFormed : Instr → Bool
  | .nop _ => true
  | .gfAdd _ => true
  | .gfMul _ => true
  | .blkXor _ => true
  | .sub _ => true
  | .subInv _ => true
  | .lcomb _ => true
  | .rstep _ => true
  | .rstepInv _ => true
  | .lin _ => true
  | .linInv _ => true
  | .rcon a => 1 ≤ a.toNat && a.toNat ≤ 32
  | .feistel _ => true
  | .expandKey _ => true
  | .encBlock _ => true
  | .decBlock _ => true
  | .ctrInit _ => true
  | .ctrChunk a => 1 ≤ a.toNat && a.toNat ≤ 16

end Sys2Proof
end

