-- ==== Sys2Proof/Decode.lean ====
section
/-! DEFINITION. The decoder and the encoder of command words (30_encoding.md R101, R104, R105). A command word is
two bytes, OP in bits 7:0 and ARG in bits 15:8; OP lies at the lower address (CMD is 0xF0, ARG is 0xF1, 20_memory.md
R71). The command is told by OP alone (R107). -/

namespace Sys2Proof

/-- Why bytes are no command. -/
inductive DecodeError where
  /-- OP is one of the 238 reserved values (R105). -/
  | illegalCmd (op : Byte)
  /-- Fewer than the two bytes of a command word (R101). -/
  | truncated (length : Nat)
  deriving DecidableEq, Repr

/-- The opcode map (R104): the command of opcode `op` with operand byte `arg`; none for a reserved OP (R105). -/
def decodeOp (op arg : Byte) : Option Instr :=
  match op.toNat with
  | 0x00 => some (.nop arg)
  | 0x01 => some (.gfAdd arg)
  | 0x02 => some (.gfMul arg)
  | 0x03 => some (.blkXor arg)
  | 0x10 => some (.sub arg)
  | 0x11 => some (.subInv arg)
  | 0x20 => some (.lcomb arg)
  | 0x21 => some (.rstep arg)
  | 0x22 => some (.rstepInv arg)
  | 0x23 => some (.lin arg)
  | 0x24 => some (.linInv arg)
  | 0x30 => some (.rcon arg)
  | 0x31 => some (.feistel arg)
  | 0x32 => some (.expandKey arg)
  | 0x40 => some (.encBlock arg)
  | 0x41 => some (.decBlock arg)
  | 0x50 => some (.ctrInit arg)
  | 0x51 => some (.ctrChunk arg)
  | _ => none

/-- The decoder, total on any bytes: the command at the head of `bytes` and the bytes after it, or why there is
none. -/
def decode : List Byte → Except DecodeError (Instr × List Byte)
  | op :: arg :: rest =>
    match decodeOp op arg with
    | some i => .ok (i, rest)
    | none => .error (.illegalCmd op)
  | short => .error (.truncated short.length)

/-- The OP of a command (R104). -/
def opcode : Instr → Byte
  | .nop _ => 0x00
  | .gfAdd _ => 0x01
  | .gfMul _ => 0x02
  | .blkXor _ => 0x03
  | .sub _ => 0x10
  | .subInv _ => 0x11
  | .lcomb _ => 0x20
  | .rstep _ => 0x21
  | .rstepInv _ => 0x22
  | .lin _ => 0x23
  | .linInv _ => 0x24
  | .rcon _ => 0x30
  | .feistel _ => 0x31
  | .expandKey _ => 0x32
  | .encBlock _ => 0x40
  | .decBlock _ => 0x41
  | .ctrInit _ => 0x50
  | .ctrChunk _ => 0x51

/-- The bytes of a command word, OP first. -/
def encode (i : Instr) : List Byte := [opcode i, i.arg]

/-- The 16-bit command word `cmd16 = ARG || OP` (R101). -/
def cmd16 (i : Instr) : BitVec 16 := i.arg ++ opcode i

/-- The two bytes of a table word of `nbits` bits: byte 0 is bits 7:0, byte 1 is bits 15:8; bits from `nbits` up
are 0. -/
def tableBytes (nbits w : Nat) : Byte × Byte :=
  let v := w % 2 ^ nbits
  (BitVec.ofNat 8 v, BitVec.ofNat 8 (v / 256))

/-- The command the decoder reads from a word numbered as spec/opcode_table.json numbers it. -/
def decodeTableWord (nbits w : Nat) : Option Instr :=
  match decode [(tableBytes nbits w).1, (tableBytes nbits w).2] with
  | .ok (i, _) => some i
  | .error _ => none

end Sys2Proof
end

