-- ==== Sys2Proof/Config.lean ====
section
/-! DEFINITION. What the spec leaves open as a value. Widths, tables and the polynomial are no parameters (R6, R8);
LAT and KZ_BASE are not used by the model (log entries 4 and 5). -/

namespace Sys2Proof

/-- The byte the n-th free draw gives: what a read of DOUT_A, DOUT_B or CTR returns while BUSY = 1
(20_memory.md R89; 93_implementation_defined.md I4). It has no body: nothing can be proved of its values.
Free value, log entry 2. -/
opaque Config.anyByte : Nat → Byte

end Sys2Proof
end

