-- ==== Sys2Proof/Machine/State.lean ====
section
/-! DEFINITION. The state of the block (10_state.md), the events that move it, the reasons a step could stop, and the
state after reset (R49). -/

namespace Sys2Proof.Machine

/-- One move of one agent (10_state.md R30). A list of them says which moves next; the list stands for one
interleaving of the host's transactions with the engine's completions (40_sequencer.md R132; log entry 1). -/
inductive Event where
  /-- A BUS transaction with dir = 0: the host reads the byte at `addr` (R74, R100). -/
  | rd (addr : Byte)
  /-- A BUS transaction with dir = 1: the host writes `data` at `addr` (R75, R100). -/
  | wr (addr data : Byte)
  /-- The host stands in its loop `wait`: it reads STATUS, and reads it again while bit 0 of the value is 1 (R109).
  `turns` is the scheduler's: how many further turns of the loop may find BUSY = 1 before the engine moves (R132; log
  entry 9). -/
  | poll (turns : Nat)
  /-- The host side asserts the reset input (R310). -/
  | reset
  /-- The engine's turn: it completes the command in flight, if there is one (R134). -/
  | engine
  deriving DecidableEq, Repr

/-- The error kinds of 60_exceptions.md R281 (0x00, "no error recorded", is the absence of one). -/
inductive ErrorKind where
  | illegalCmd
  | invalidLength
  | outOfRange
  | noKey
  | noCounter
  | busyErr
  deriving DecidableEq, Repr

/-- The block's registers, and at the end three fields of the model's own. -/
structure State where
  /-- DIN_A, DIN_B, DIN_C: operand registers (R31). -/
  dinA : Block
  dinB : Block
  dinC : Block
  /-- DOUT_A, DOUT_B: result registers (R32). -/
  doutA : Block
  doutB : Block
  /-- KEY: the write-only key register (R33). -/
  key : KeyBytes
  /-- IV (R34). -/
  iv : IvBytes
  /-- CTR: the 128-bit counter, lane 0 the most significant (R35). -/
  ctr : Block
  /-- ARG: the argument register (R36). -/
  arg : Byte
  /-- STATUS.DONE, bit 1 (R38). -/
  done : Bool
  /-- STATUS.ERR, bit 2 (R38). -/
  err : Bool
  /-- STATUS.KV, bit 3 (R38, R41). -/
  kv : Bool
  /-- STATUS.CTRV, bit 4 (R38, R42). -/
  ctrv : Bool
  /-- ERRCODE (R39). -/
  errcode : Byte
  /-- RK[0..9]: the round-key file (R40). -/
  rk : RoundKeys
  /-- PEND: the command in flight with the ARG of its issue, or none (R43). BUSY is `pend` being some command. -/
  pend : Option Instr
  /-- Model's own: the moves still to come, next first (log entry 1). -/
  events : List Event
  /-- Model's own: the data fields of the read transactions so far, the first read first (R100; log entry 3). -/
  reads : List Byte
  /-- Model's own: how many free bytes have been drawn (R89; log entry 2). -/
  draws : Nat
  deriving DecidableEq, Repr

/-- Reasons for a fault. There are none, because no step of the block stops it: "The block never stops, hangs or
needs reset because of an error" (60_exceptions.md R280). Nobody raises one; safe. -/
inductive Fault where
  deriving DecidableEq, Repr

/-- Reasons for a refusal. -/
inductive Refusal where
  /-- A command without a meaning, raised by an arm of exec only; no arm raises it now. Safe. -/
  | notModelled (mnemonic : String)
  deriving DecidableEq, Repr

/-- The state after reset: every register as R49 says; of the model's own fields, no event to come, no byte read and
no byte drawn (log entries 1 to 3). -/
def State.reset : State where
  dinA := Block.zero
  dinB := Block.zero
  dinC := Block.zero
  doutA := Block.zero
  doutB := Block.zero
  key := Vector.replicate 32 0
  iv := Vector.replicate 8 0
  ctr := Block.zero
  arg := 0
  done := false
  err := false
  kv := false
  ctrv := false
  errcode := 0
  rk := Vector.replicate 10 Block.zero
  pend := none
  events := []
  reads := []
  draws := 0

end Sys2Proof.Machine
end

