-- ==== Sys2Proof/Machine/Flags.lean ====
section
/-! DEFINITION. The STATUS flags and the error codes (10_state.md R38, R43; 60_exceptions.md R281). No command
computes an arithmetic flag (R45). -/

namespace Sys2Proof.Machine

/-- BUSY is `PEND != none` (R43). -/
def State.busy (s : State) : Bool := s.pend.isSome

/-- A flag as the bit at place `k` of a byte. -/
def flagBit (f : Bool) (k : Nat) : Byte := (if f then 1#8 else 0#8) <<< k

/-- The byte STATUS reads as: `CTRV<<4 | KV<<3 | ERR<<2 | DONE<<1 | BUSY`, bits 7:5 zero (R38, R74). -/
def State.statusByte (s : State) : Byte :=
  flagBit s.ctrv 4 ||| flagBit s.kv 3 ||| flagBit s.err 2 ||| flagBit s.done 1 ||| flagBit s.busy 0

/-- The value ERRCODE takes for an error (R281). -/
def ErrorKind.code : ErrorKind → Byte
  | .illegalCmd => 0x01
  | .invalidLength => 0x02
  | .outOfRange => 0x03
  | .noKey => 0x04
  | .noCounter => 0x05
  | .busyErr => 0x06

end Sys2Proof.Machine
end

