-- ==== Sys2Proof/Machine/Operands.lean ====
section
/-! DEFINITION. Operands: the address map of the register window (20_memory.md R71), the byte order of blocks
(00_scope.md R12), the ranges of ARG (30_encoding.md R103) and the form of a byte result (92_eei_decisions.md D8). -/

namespace Sys2Proof.Machine

/-- What an address of the window names (R71): a byte of a register, or nothing. -/
inductive WindowReg where
  | dinA (k : Fin 16)
  | dinB (k : Fin 16)
  | dinC (k : Fin 16)
  | doutA (k : Fin 16)
  | doutB (k : Fin 16)
  | key (k : Fin 32)
  | iv (k : Fin 8)
  | ctr (k : Fin 16)
  | cmd
  | arg
  | status
  | errcode
  | reserved
  deriving DecidableEq, Repr

/-- The address map (R71). Byte i of a register stands at its base + i (R73). -/
def locate (a : Byte) : WindowReg :=
  if h : a.toNat < 0x10 then .dinA ⟨a.toNat, h⟩
  else if h : a.toNat < 0x20 then .dinB ⟨a.toNat - 0x10, by omega⟩
  else if h : a.toNat < 0x30 then .dinC ⟨a.toNat - 0x20, by omega⟩
  else if h : a.toNat < 0x40 then .doutA ⟨a.toNat - 0x30, by omega⟩
  else if h : a.toNat < 0x50 then .doutB ⟨a.toNat - 0x40, by omega⟩
  else if h : a.toNat < 0x70 then .key ⟨a.toNat - 0x50, by omega⟩
  else if h : a.toNat < 0x78 then .iv ⟨a.toNat - 0x70, by omega⟩
  else if a.toNat < 0x80 then .reserved
  else if h : a.toNat < 0x90 then .ctr ⟨a.toNat - 0x80, by omega⟩
  else if a.toNat < 0xF0 then .reserved
  else if a.toNat = 0xF0 then .cmd
  else if a.toNat = 0xF1 then .arg
  else if a.toNat = 0xF2 then .status
  else if a.toNat = 0xF3 then .errcode
  else .reserved

/-- The integer a block encodes, big-endian (R12). -/
def int128 (b : Block) : Nat :=
  ((List.finRange 16).map fun i => b[i].toNat * 256 ^ (15 - i.val)).sum

/-- The block of `n mod 2^128`, big-endian (R12). -/
def be128 (n : Nat) : Block := Vector.ofFn fun i => BitVec.ofNat 8 (n / 256 ^ (15 - i.val))

/-- The integer an IV encodes, big-endian (R12, R34). -/
def int64 (iv : IvBytes) : Nat :=
  ((List.finRange 8).map fun i => iv[i].toNat * 256 ^ (7 - i.val)).sum

/-- ARG as a number: zero-extended, unscaled, unshifted (R103). -/
def argValue (arg : Byte) : Nat := arg.toNat

/-- RCON's index is legal in 1..32 (R103, R225). -/
def rconIndexLegal (arg : Byte) : Bool := 1 ≤ argValue arg && argValue arg ≤ 32

/-- CTR_CHUNK's length is legal in 1..16 (R103, R266). -/
def chunkLengthLegal (arg : Byte) : Bool := 1 ≤ argValue arg && argValue arg ≤ 16

/-- A byte result as a block: the byte in lane 0, 0x00 in lanes 1..15 (R155, R156, R200; D8). -/
def byteResult (v : Byte) : Block := Vector.ofFn fun i => if i.val = 0 then v else 0

/-- K_left: KEY[0..15] (R33, R222). -/
def keyLeft (key : KeyBytes) : Block := Vector.ofFn fun i => key[i.val]

/-- K_right: KEY[16..31] (R33, R222). -/
def keyRight (key : KeyBytes) : Block := Vector.ofFn fun i => key[i.val + 16]

end Sys2Proof.Machine
end

