-- ==== Sys2Proof/Machine/Ops.lean ====
section
/-! DEFINITION. The operations the meanings share: recording an error and clearing it (60_exceptions.md R282, R288),
the two stages of a command (40_sequencer.md R130, R131, R134), the writes of result registers, and the read of one
byte of the window (20_memory.md R74). -/

namespace Sys2Proof.Machine

/-! ## Errors: entry and return -/

/-- `record_error(code)`, the entry of an error: ERR is 1 afterwards, and ERRCODE takes the code only if ERR was 0; a
later error is lost (R282, R287). -/
def State.recordError (e : ErrorKind) (s : State) : State :=
  { s with err := true, errcode := if s.err then s.errcode else e.code }

/-- `reject(code)`: the error is recorded and DONE is set; nothing else changes (R131). -/
def State.reject (e : ErrorKind) (s : State) : State :=
  { s.recordError e with done := true }

/-- A host write of STATUS, the return from an error: bit 1 clears DONE, bit 2 clears ERR and ERRCODE; every other
bit is ignored; honoured while BUSY (R38, R75, R288). -/
def State.statusWrite (v : Byte) (s : State) : State :=
  { s with
    done := s.done && !v.getLsbD 1
    err := s.err && !v.getLsbD 2
    errcode := if v.getLsbD 2 then 0 else s.errcode }

/-- A store to an input register: `stored` is the state with the byte in place; while BUSY the write is dropped and
BUSY_ERR is recorded (R75). -/
def State.guardedStore (stored s : State) : State :=
  if s.busy then s.recordError .busyErr else stored

/-! ## The two stages of a command -/

/-- Acceptance at the issue: `PEND <- (op, ARG)`, so BUSY becomes 1 (R130). -/
def State.accept (i : Instr) (s : State) : State := { s with pend := some i }

/-- The end of a completion: `PEND <- none; DONE <- 1` (R134). -/
def State.finish (s : State) : State := { s with pend := none, done := true }

/-- One check of a command's rule: whether it holds, and the error its failure raises. -/
structure Check where
  holds : Bool
  error : ErrorKind
  deriving DecidableEq, Repr

/-- The error of the first check that fails, in the order the rule lists them (R130, R137). -/
def firstFailure : List Check → Option ErrorKind
  | [] => none
  | c :: cs => if c.holds then firstFailure cs else some c.error

/-- A command's rule, run one stage on. With no command in flight it is being issued: its own checks are made, and it
is rejected or accepted (R130, after BUSY, the clearing of DONE and the legality of OP, which the sequencer has dealt
with). With a command in flight it is being completed: `effect` is the state with the rule's effect in it, and the
completion ends (R134). The effect cannot fail. Log entry 10. -/
def runCommand (i : Instr) (checks : List Check) (effect s : State) :
    Host.Outcome State Fault Refusal :=
  match s.pend with
  | none =>
    match firstFailure checks with
    | some e => .next (s.reject e)
    | none => .next (s.accept i)
  | some _ => .next effect.finish

/-- The check that the key is valid: NO_KEY while KV = 0 (R41, R245, R246, R266). -/
def keyCheck (s : State) : Check := ⟨s.kv, .noKey⟩

/-- The check that a stream is open: NO_COUNTER while CTRV = 0 (R42, R266). -/
def counterCheck (s : State) : Check := ⟨s.ctrv, .noCounter⟩

/-- The check of a chunk's length: INVALID_LENGTH outside 1..16 (R266). -/
def lengthCheck (arg : Byte) : Check := ⟨chunkLengthLegal arg, .invalidLength⟩

/-- The check of a constant's index: OUT_OF_RANGE outside 1..32 (R225). -/
def indexCheck (arg : Byte) : Check := ⟨rconIndexLegal arg, .outOfRange⟩

/-! ## Writes of the result registers (R136: a register named by a rule is written whole) -/

/-- DOUT_A <- b. -/
def State.writeDoutA (b : Block) (s : State) : State := { s with doutA := b }

/-- (DOUT_A, DOUT_B) <- p (R226). -/
def State.writeDoutAB (p : Block × Block) (s : State) : State := { s with doutA := p.1, doutB := p.2 }

/-- RK <- ks; KV <- 1; CTRV <- 0 (R227). -/
def State.writeSchedule (ks : RoundKeys) (s : State) : State := { s with rk := ks, kv := true, ctrv := false }

/-- CTR <- c; CTRV <- 1 (R265). -/
def State.openStream (c : Block) (s : State) : State := { s with ctr := c, ctrv := true }

/-- DOUT_A <- out; CTR <- c; and CTRV <- 0 if `last` (R266). -/
def State.writeChunk (out c : Block) (last : Bool) (s : State) : State :=
  { s with doutA := out, ctr := c, ctrv := if last then false else s.ctrv }

/-! ## Reading one byte of the window -/

/-- Whether the read of a register gives a free byte: DOUT_A, DOUT_B and CTR while BUSY (R74, R89). -/
def readsFree (r : WindowReg) (s : State) : Bool :=
  match r with
  | .doutA _ => s.busy
  | .doutB _ => s.busy
  | .ctr _ => s.busy
  | .dinA _ => false
  | .dinB _ => false
  | .dinC _ => false
  | .key _ => false
  | .iv _ => false
  | .cmd => false
  | .arg => false
  | .status => false
  | .errcode => false
  | .reserved => false

/-- The byte a register reads as when the read is no free draw (R72, R74): KEY, CMD and reserved addresses read
0x00. -/
def readReg (r : WindowReg) (s : State) : Byte :=
  match r with
  | .dinA k => s.dinA[k]
  | .dinB k => s.dinB[k]
  | .dinC k => s.dinC[k]
  | .doutA k => s.doutA[k]
  | .doutB k => s.doutB[k]
  | .key _ => 0
  | .iv k => s.iv[k]
  | .ctr k => s.ctr[k]
  | .cmd => 0
  | .arg => s.arg
  | .status => s.statusByte
  | .errcode => s.errcode
  | .reserved => 0

/-- The read transaction's byte is returned on the bus, after those of the reads before it; no register changes (R74,
R79). -/
def State.returnByte (b : Byte) (s : State) : State := { s with reads := s.reads ++ [b] }

/-- A free byte is returned, and the next draw will be a fresh one (R89, I4). -/
def State.returnFree (s : State) : State :=
  { s with reads := s.reads ++ [Config.anyByte s.draws], draws := s.draws + 1 }

/-- `HostRead(a)` (R74). -/
def State.busRead (a : Byte) (s : State) : State :=
  if readsFree (locate a) s then s.returnFree else s.returnByte (readReg (locate a) s)

/-! ## Reset -/

/-- The reset input: every piece of the block's state takes its reset value, a command in flight is abandoned
(R49, R310). The events still to come, the bytes read and the count of draws belong to the world around the
block and stay (log entry 6). -/
def State.assertReset (s : State) : State :=
  { State.reset with events := s.events, reads := s.reads, draws := s.draws }

/-- The event just taken is removed; `rest` are those still to come. -/
def State.withEvents (rest : List Event) (s : State) : State := { s with events := rest }

/-- `DONE <- 0` at an issue (R130). -/
def State.clearDone (s : State) : State := { s with done := false }

end Sys2Proof.Machine
end

