-- ==== Sys2Proof/Machine/Control.lean ====
section
/-! DEFINITION. NOP (40_sequencer.md R138). -/

namespace Sys2Proof.Machine

/-- NOP (R138): no check and no effect; only BUSY and DONE are written. -/
def execNop (arg : Byte) (s : State) : Host.Outcome State Fault Refusal :=
  runCommand (.nop arg) [] s s

end Sys2Proof.Machine
end

