-- ==== Sys2Proof/Machine/Galois.lean ====
section
/-! DEFINITION. The GaloisField family: GF_ADD, GF_MUL, BLK_XOR (41_galois.md). -/

namespace Sys2Proof.Machine

/-- `gf_add(a, b) = a xor b` (R150). -/
def gfAdd (a b : Byte) : Byte := a ^^^ b

/-- The running copy shifted left by one; a bit pushed past position 7 folds in 0xC3 (R151). -/
def gfDouble (t : Byte) : Byte := if t.getLsbD 7 then (t <<< 1) ^^^ 0xC3 else t <<< 1

/-- One turn of gf_mul's loop, for bit k of b, on the accumulator and the running copy (R151). -/
def gfMulTurn (b : Byte) (pt : Byte × Byte) (k : Nat) : Byte × Byte :=
  (if b.getLsbD k then pt.1 ^^^ pt.2 else pt.1, gfDouble pt.2)

/-- `gf_mul(a, b)`: bits 0..7 of b in turn, from the accumulator 0x00 and the copy a (R151). -/
def gfMul (a b : Byte) : Byte := ((List.range 8).foldl (gfMulTurn b) (0, a)).1

/-- `xblk(a, b)`: lane-wise gf_add (R153). -/
def xblk (a b : Block) : Block := Vector.ofFn fun i => gfAdd a[i] b[i]

/-- GF_ADD (R155): `DOUT_A[0] <- gf_add(DIN_A[0], DIN_B[0])`, lanes 1..15 zero. -/
def execGfAdd (arg : Byte) (s : State) : Host.Outcome State Fault Refusal :=
  runCommand (.gfAdd arg) [] (s.writeDoutA (byteResult (gfAdd s.dinA[0] s.dinB[0]))) s

/-- GF_MUL (R156): `DOUT_A[0] <- gf_mul(DIN_A[0], DIN_B[0])`, lanes 1..15 zero. -/
def execGfMul (arg : Byte) (s : State) : Host.Outcome State Fault Refusal :=
  runCommand (.gfMul arg) [] (s.writeDoutA (byteResult (gfMul s.dinA[0] s.dinB[0]))) s

/-- BLK_XOR (R157): `DOUT_A <- xblk(DIN_A, DIN_B)`. -/
def execBlkXor (arg : Byte) (s : State) : Host.Outcome State Fault Refusal :=
  runCommand (.blkXor arg) [] (s.writeDoutA (xblk s.dinA s.dinB)) s

end Sys2Proof.Machine
end

