-- ==== Sys2Proof/Machine/Linear.lean ====
section
/-! DEFINITION. The LinearTransform family: LCOMB, RSTEP, RSTEP_INV, LIN, LIN_INV (43_linear.md). -/

namespace Sys2Proof.Machine

/-- `lcomb(b)`: `c <- gf_add(c, gf_mul(m[i], b[i]))` for i = 0..15, from 0x00 (R191). -/
def lcomb (b : Block) : Byte :=
  (List.finRange 16).foldl (fun c i => gfAdd c (gfMul multipliers[i] b[i])) 0

/-- `rstep(b) = [lcomb(b)] || b[0..14]` (R192). -/
def rstep (b : Block) : Block :=
  Vector.ofFn fun i => if h : i.val = 0 then lcomb b else b[i.val - 1]

/-- `b[1..15] || [b[0]]`, the block whose combination closes rstep_inv (R193). -/
def rotateLanes (b : Block) : Block :=
  Vector.ofFn fun i => if h : i.val < 15 then b[i.val + 1] else b[0]

/-- `rstep_inv(b) = b[1..15] || [lcomb(b[1..15] || [b[0]])]` (R193). -/
def rstepInv (b : Block) : Block :=
  Vector.ofFn fun i => if h : i.val < 15 then b[i.val + 1] else lcomb (rotateLanes b)

/-- `lmap(b)`: rstep sixteen times in sequence (R194). -/
def lmap (b : Block) : Block := rstep^[16] b

/-- `linv(b)`: rstep_inv sixteen times in sequence (R195). -/
def linv (b : Block) : Block := rstepInv^[16] b

/-- LCOMB (R200): `DOUT_A[0] <- lcomb(DIN_A)`, lanes 1..15 zero. -/
def execLcomb (arg : Byte) (s : State) : Host.Outcome State Fault Refusal :=
  runCommand (.lcomb arg) [] (s.writeDoutA (byteResult (lcomb s.dinA))) s

/-- RSTEP (R201): `DOUT_A <- rstep(DIN_A)`. -/
def execRstep (arg : Byte) (s : State) : Host.Outcome State Fault Refusal :=
  runCommand (.rstep arg) [] (s.writeDoutA (rstep s.dinA)) s

/-- RSTEP_INV (R202): `DOUT_A <- rstep_inv(DIN_A)`. -/
def execRstepInv (arg : Byte) (s : State) : Host.Outcome State Fault Refusal :=
  runCommand (.rstepInv arg) [] (s.writeDoutA (rstepInv s.dinA)) s

/-- LIN (R203): `DOUT_A <- lmap(DIN_A)`. -/
def execLin (arg : Byte) (s : State) : Host.Outcome State Fault Refusal :=
  runCommand (.lin arg) [] (s.writeDoutA (lmap s.dinA)) s

/-- LIN_INV (R204): `DOUT_A <- linv(DIN_A)`. -/
def execLinInv (arg : Byte) (s : State) : Host.Outcome State Fault Refusal :=
  runCommand (.linInv arg) [] (s.writeDoutA (linv s.dinA)) s

end Sys2Proof.Machine
end

