-- ==== Sys2Proof/Machine/Substitution.lean ====
section
/-! DEFINITION. The Substitution family: SUB, SUB_INV (42_substitution.md). -/

namespace Sys2Proof.Machine

/-- `sblk(b)`: the S-box in each lane (R172). -/
def sblk (b : Block) : Block := Vector.ofFn fun i => sbox b[i]

/-- `sinvblk(b)`: the inverse S-box in each lane (R172). -/
def sinvblk (b : Block) : Block := Vector.ofFn fun i => sboxInv b[i]

/-- SUB (R173): `DOUT_A <- sblk(DIN_A)`. -/
def execSub (arg : Byte) (s : State) : Host.Outcome State Fault Refusal :=
  runCommand (.sub arg) [] (s.writeDoutA (sblk s.dinA)) s

/-- SUB_INV (R174): `DOUT_A <- sinvblk(DIN_A)`. -/
def execSubInv (arg : Byte) (s : State) : Host.Outcome State Fault Refusal :=
  runCommand (.subInv arg) [] (s.writeDoutA (sinvblk s.dinA)) s

end Sys2Proof.Machine
end

