-- ==== Sys2Proof/Machine/KeySchedule.lean ====
section
/-! DEFINITION. The KeySchedule family: RCON, FEISTEL, EXPAND_KEY (44_keyschedule.md). -/

namespace Sys2Proof.Machine

/-- `rc(i) = lmap(be128(i))`, used for i = 1..32 only (R220). -/
def roundConstant (i : Nat) : Block := lmap (be128 i)

/-- `feistel(c, l, r)`: the new left and the new right (R221; 90_conflicts.md C3). -/
def feistel (c l r : Block) : Block × Block := (xblk (lmap (sblk (xblk c l))) r, l)

/-- Outer iteration i of the expansion: eight Feistel rounds with rc(8i+1) to rc(8i+8), in that order (R222;
90_conflicts.md C4). -/
def feistelRounds (i : Nat) (lr : Block × Block) : Block × Block :=
  (List.range 8).foldl (fun p j => feistel (roundConstant (8 * i + j + 1)) p.1 p.2) lr

/-- `expand(key)`: K0, K1 are the halves of the key; each outer iteration starts from the pair the one before it left
and gives the next two round keys (R222, R223). -/
def expand (key : KeyBytes) : RoundKeys :=
  let p0 := (keyLeft key, keyRight key)
  let p1 := feistelRounds 0 p0
  let p2 := feistelRounds 1 p1
  let p3 := feistelRounds 2 p2
  let p4 := feistelRounds 3 p3
  #v[p0.1, p0.2, p1.1, p1.2, p2.1, p2.2, p3.1, p3.2, p4.1, p4.2]

/-- RCON (R225): OUT_OF_RANGE unless ARG is in 1..32; `DOUT_A <- rc(ARG)`. -/
def execRcon (arg : Byte) (s : State) : Host.Outcome State Fault Refusal :=
  runCommand (.rcon arg) [indexCheck arg] (s.writeDoutA (roundConstant (argValue arg))) s

/-- FEISTEL (R226): `(DOUT_A, DOUT_B) <- feistel(DIN_C, DIN_A, DIN_B)`. -/
def execFeistel (arg : Byte) (s : State) : Host.Outcome State Fault Refusal :=
  runCommand (.feistel arg) [] (s.writeDoutAB (feistel s.dinC s.dinA s.dinB)) s

/-- EXPAND_KEY (R227): `RK <- expand(KEY); KV <- 1; CTRV <- 0`. -/
def execExpandKey (arg : Byte) (s : State) : Host.Outcome State Fault Refusal :=
  runCommand (.expandKey arg) [] (s.writeSchedule (expand s.key)) s

end Sys2Proof.Machine
end

