-- ==== Sys2Proof/Machine/BlockCipher.lean ====
section
/-! DEFINITION. The BlockCipher family: ENC_BLOCK, DEC_BLOCK (45_blockcipher.md). -/

namespace Sys2Proof.Machine

/-- One full round of the encryption under round key k: `lmap(sblk(xblk(k, b)))` (R240). -/
def encryptRound (k b : Block) : Block := lmap (sblk (xblk k b))

/-- One round of the decryption under round key k: `xblk(k, sinvblk(linv(b)))` (R241; 90_conflicts.md C2). -/
def decryptRound (k b : Block) : Block := xblk k (sinvblk (linv b))

/-- `encrypt(K, b)`: rounds 0..8, then the final XOR with K[9] (R240). -/
def encrypt (ks : RoundKeys) (b : Block) : Block :=
  xblk ks[9] ((List.finRange 9).foldl (fun b r => encryptRound ks[r.val] b) b)

/-- `decrypt(K, b)`: the XOR with K[9], then rounds 8 down to 0 (R241). -/
def decrypt (ks : RoundKeys) (b : Block) : Block :=
  (List.finRange 9).reverse.foldl (fun b r => decryptRound ks[r.val] b) (xblk ks[9] b)

/-- ENC_BLOCK (R245): NO_KEY while KV = 0; `DOUT_A <- encrypt(RK, DIN_A)`. -/
def execEncBlock (arg : Byte) (s : State) : Host.Outcome State Fault Refusal :=
  runCommand (.encBlock arg) [keyCheck s] (s.writeDoutA (encrypt s.rk s.dinA)) s

/-- DEC_BLOCK (R246): NO_KEY while KV = 0; `DOUT_A <- decrypt(RK, DIN_A)`. -/
def execDecBlock (arg : Byte) (s : State) : Host.Outcome State Fault Refusal :=
  runCommand (.decBlock arg) [keyCheck s] (s.writeDoutA (decrypt s.rk s.dinA)) s

end Sys2Proof.Machine
end

