-- ==== Sys2Proof/Machine/CounterMode.lean ====
section
/-! DEFINITION. The CounterMode family: CTR_INIT, CTR_CHUNK (46_counter.md). -/

namespace Sys2Proof.Machine

/-- `ctr0(iv) = iv || 8 bytes of 0x00` (R260). -/
def ctr0 (iv : IvBytes) : Block := Vector.ofFn fun i => if h : i.val < 8 then iv[i.val] else 0

/-- `ctr_inc(c) = be128((int128(c) + 1) mod 2^128)` (R261). -/
def ctrInc (c : Block) : Block := be128 ((int128 c + 1) % 2 ^ 128)

/-- A chunk of n bytes combined with the keystream: lanes 0..n-1 are `d xor ks`, the lanes from n on are 0x00 (R263,
R266). -/
def chunkOutput (n : Nat) (d ks : Block) : Block :=
  Vector.ofFn fun j => if j.val < n then d[j] ^^^ ks[j] else 0

/-- CTR_INIT (R265): `CTR <- ctr0(IV); CTRV <- 1`; no key is needed. -/
def execCtrInit (arg : Byte) (s : State) : Host.Outcome State Fault Refusal :=
  runCommand (.ctrInit arg) [] (s.openStream (ctr0 s.iv)) s

/-- CTR_CHUNK (R266): NO_KEY, then NO_COUNTER, then INVALID_LENGTH; the chunk is combined with `encrypt(RK, CTR)`, CTR
is incremented, and a chunk of fewer than 16 bytes closes the stream. -/
def execCtrChunk (arg : Byte) (s : State) : Host.Outcome State Fault Refusal :=
  runCommand (.ctrChunk arg) [keyCheck s, counterCheck s, lengthCheck arg]
    (s.writeChunk (chunkOutput (argValue arg) s.dinA (encrypt s.rk s.ctr)) (ctrInc s.ctr)
      (argValue arg < 16)) s

end Sys2Proof.Machine
end

