-- ==== Sys2Proof/Machine/Dispatch.lean ====
section
/-! DEFINITION. The dispatch: one arm per command, each one call of the command's meaning. -/

namespace Sys2Proof.Machine

def exec (i : Instr) (s : State) : Host.Outcome State Fault Refusal :=
  match i with
  | .nop arg => Sys2Proof.Machine.execNop arg s
  | .gfAdd arg => Sys2Proof.Machine.execGfAdd arg s
  | .gfMul arg => Sys2Proof.Machine.execGfMul arg s
  | .blkXor arg => Sys2Proof.Machine.execBlkXor arg s
  | .sub arg => Sys2Proof.Machine.execSub arg s
  | .subInv arg => Sys2Proof.Machine.execSubInv arg s
  | .lcomb arg => Sys2Proof.Machine.execLcomb arg s
  | .rstep arg => Sys2Proof.Machine.execRstep arg s
  | .rstepInv arg => Sys2Proof.Machine.execRstepInv arg s
  | .lin arg => Sys2Proof.Machine.execLin arg s
  | .linInv arg => Sys2Proof.Machine.execLinInv arg s
  | .rcon arg => Sys2Proof.Machine.execRcon arg s
  | .feistel arg => Sys2Proof.Machine.execFeistel arg s
  | .expandKey arg => Sys2Proof.Machine.execExpandKey arg s
  | .encBlock arg => Sys2Proof.Machine.execEncBlock arg s
  | .decBlock arg => Sys2Proof.Machine.execDecBlock arg s
  | .ctrInit arg => Sys2Proof.Machine.execCtrInit arg s
  | .ctrChunk arg => Sys2Proof.Machine.execCtrChunk arg s

end Sys2Proof.Machine
end

