-- ==== Sys2Proof/Machine/Sequencer.lean ====
section
/-! DEFINITION. The command sequencer and the host's writes: `issue` (40_sequencer.md R130), `complete` (R134), `HostWrite`
(20_memory.md R75) and the turns of the host's loop `wait` (30_encoding.md R109). -/

namespace Sys2Proof.Machine

/-- `issue(op)`: BUSY first, then DONE <- 0 and the legality of OP, then the command's own checks and acceptance,
which are its meaning's (R130, R137). The command is decoded from OP, with ARG as it stands (R101, R318).
Log entries 10 and 12. -/
def issue (op : Byte) (s : State) : Host.Outcome State Fault Refusal :=
  if s.busy then .next (s.recordError .busyErr)
  else
    match decodeOp op s.arg with
    | none => .next (s.clearDone.reject .illegalCmd)
    | some i => exec i s.clearDone

/-- `HostWrite(a, v)` (R75): a store to an input register, an issue, a STATUS write, or nothing. -/
def busWrite (a v : Byte) (s : State) : Host.Outcome State Fault Refusal :=
  match locate a with
  | .dinA k => .next (State.guardedStore { s with dinA := s.dinA.set k v } s)
  | .dinB k => .next (State.guardedStore { s with dinB := s.dinB.set k v } s)
  | .dinC k => .next (State.guardedStore { s with dinC := s.dinC.set k v } s)
  | .key k => .next (State.guardedStore { s with key := s.key.set k v } s)
  | .iv k => .next (State.guardedStore { s with iv := s.iv.set k v } s)
  | .arg => .next (State.guardedStore { s with arg := v } s)
  | .cmd => issue v s
  | .status => .next (s.statusWrite v)
  | .doutA _ => .next s
  | .doutB _ => .next s
  | .ctr _ => .next s
  | .errcode => .next s
  | .reserved => .next s

/-- The engine's turn: `complete()`, enabled exactly when a command is in flight (R134); with none in flight nothing
happens. -/
def engineTurn (s : State) : Host.Outcome State Fault Refusal :=
  match s.pend with
  | some i => exec i s
  | none => .next s

/-- What comes of a turn of the loop `wait` that finds BUSY = 1: the host goes round again, and when its turns are used
up the engine moves first, so that the loop ends (R109; the weak fairness of R132; log entry 9). -/
def loopAgain : Nat → List Event
  | 0 => [.engine, .poll 0]
  | turns + 1 => [.poll turns]

/-- The value a read of STATUS returns (R74). -/
def statusValue (s : State) : Byte := readReg (locate 0xF2) s

/-- One turn of `wait`: `L: rd STATUS; if bit 0 of the value is 1, go to L` (R109). -/
def waitTurn (turns : Nat) (s : State) : State :=
  let t := s.busRead 0xF2
  if (statusValue s).getLsbD 0 then t.withEvents (loopAgain turns ++ t.events) else t

/-- What one event does. -/
def takeEvent (e : Event) (s : State) : Host.Outcome State Fault Refusal :=
  match e with
  | .rd a => .next (s.busRead a)
  | .wr a v => busWrite a v s
  | .poll turns => .next (waitTurn turns s)
  | .reset => .next s.assertReset
  | .engine => engineTurn s

/-- The state in which the next move issues the command word `w`: ARG holds the word's operand byte, nothing is in
flight, and the host's write of OP to CMD comes next, before the events already waiting (R101). -/
def placeCommand (nbits w : Nat) (s : State) : State :=
  { s with
    arg := (tableBytes nbits w).2
    pend := none
    events := .wr 0xF0 (tableBytes nbits w).1 :: s.events }

end Sys2Proof.Machine
end

