-- ==== Sys2Proof/Machine/Step.lean ====
section
/-! DEFINITION. One step: the next event is taken (10_state.md R30; 20_memory.md R80). -/

namespace Sys2Proof.Machine

/-- One step of one agent. When no event is left the engine still completes a command in flight, since every accepted
command does complete (40_sequencer.md R132); with none in flight the block is idle (R296; log entry 1). -/
def step (s : State) : Host.Outcome State Fault Refusal :=
  match s.events with
  | e :: rest => takeEvent e (s.withEvents rest)
  | [] => engineTurn s

/-- `s` with the command word placed where the next command comes from: the host's next CMD write (R46, R84, R101;
log entry 8). -/
def State.withFetchWord (s : State) (nbits w : Nat) : State := placeCommand nbits w s

end Sys2Proof.Machine
end

