-- ==== Sys2Proof/Machine/Host.lean ====
section
/-! DEFINITION. What the host puts on the bus: the BUS format (30_encoding.md R100) and the statements of host
programs with their expansions (R108, R109). The host's variables, branches and loops are its own (10_state.md R46);
a program here is what reaches the block, a list of events. -/

namespace Sys2Proof.Machine

/-- The transaction of the BUS format's fields: dir 0 reads, dir 1 writes (R100). -/
def busTransaction (dir : BitVec 1) (addr data : Byte) : Event :=
  if dir = 0 then .rd addr else .wr addr data

/-- The register names of host programs (R108). -/
inductive RegName where
  | dinA | dinB | dinC | doutA | doutB | key | iv | ctr | cmd | arg | status | errcode
  deriving DecidableEq, Repr

/-- The address a register name stands for (R108). -/
def RegName.base : RegName → Nat
  | .dinA => 0x00
  | .dinB => 0x10
  | .dinC => 0x20
  | .doutA => 0x30
  | .doutB => 0x40
  | .key => 0x50
  | .iv => 0x70
  | .ctr => 0x80
  | .cmd => 0xF0
  | .arg => 0xF1
  | .status => 0xF2
  | .errcode => 0xF3

/-- A register's size in bytes (R71). -/
def RegName.size : RegName → Nat
  | .dinA => 16
  | .dinB => 16
  | .dinC => 16
  | .doutA => 16
  | .doutB => 16
  | .key => 32
  | .iv => 8
  | .ctr => 16
  | .cmd => 1
  | .arg => 1
  | .status => 1
  | .errcode => 1

/-- The address `base(REG) + k` (R73, R108, R109). DESIGN CHOICE, log entry 13: where the sum passes 0xFF, as for
byte 16 of a string at CMD, the spec gives no address, and the model takes the sum modulo 256, the width of an address
(R10). -/
def RegName.addr (r : RegName) (k : Nat) : Byte := BitVec.ofNat 8 (r.base + k)

/-- A statement of a host program (R108) or a pseudo-instruction (R109). `cmd` takes the OP byte of the mnemonic. `wait`
carries the scheduler's bound on the turns of its loop (log entry 9), which is no part of its text. -/
inductive HostStmt where
  | wr (addr data : Byte)
  | rd (addr : Byte)
  | ld (r : RegName) (bytes : List Byte)
  | st (r : RegName)
  | cmd (op : Byte)
  | cmdArg (op arg : Byte)
  | wait (turns : Nat)
  | clr
  deriving DecidableEq, Repr

/-- The writes of `bytes` from byte k of a register on, in ascending k (R109). -/
def loadFrom (r : RegName) : Nat → List Byte → List Event
  | _, [] => []
  | k, b :: bs => .wr (r.addr k) b :: loadFrom r (k + 1) bs

/-- The transactions a statement expands to (R108, R109). The reads of `wait` depend on what they return, so its loop is
one event, which the step takes turn by turn. -/
def HostStmt.expand : HostStmt → List Event
  | .wr a v => [.wr a v]
  | .rd a => [.rd a]
  | .ld r bytes => loadFrom r 0 bytes
  | .st r => (List.range r.size).map fun k => .rd (r.addr k)
  | .cmd op => [.wr (RegName.cmd.addr 0) op]
  | .cmdArg op arg => [.wr (RegName.arg.addr 0) arg, .wr (RegName.cmd.addr 0) op]
  | .wait turns => [.poll turns]
  | .clr => [.wr (RegName.status.addr 0) 0x06]

/-- How many bytes a statement yields: `rd` the value read (R108), `st` the bytes of its register (R109). -/
def HostStmt.yieldSize : HostStmt → Nat
  | .wr _ _ => 0
  | .rd _ => 1
  | .ld _ _ => 0
  | .st r => r.size
  | .cmd _ => 0
  | .cmdArg _ _ => 0
  | .wait _ => 0
  | .clr => 0

/-- What a statement yields, in order, in the state its last transaction leaves: the last bytes read (R108, R109). -/
def HostStmt.yielded (h : HostStmt) (s : State) : List Byte := s.reads.drop (s.reads.length - h.yieldSize)

/-- The transactions of a host program. -/
def expandProgram (p : List HostStmt) : List Event := p.flatMap HostStmt.expand

/-! ## Hex strings, two digits per byte, the first two digits byte 0 (R109; 00_scope.md R12) -/

/-- The digits 0 to 15. -/
def hexDigits : List Char := ['0', '1', '2', '3', '4', '5', '6', '7', '8', '9', 'a', 'b', 'c', 'd', 'e', 'f']

/-- The hex string `st` yields for bytes in order. -/
def hexOfBytes : List Byte → List Char
  | [] => []
  | b :: bs => hexDigits.getD (b.toNat / 16) '0' :: hexDigits.getD (b.toNat % 16) '0' :: hexOfBytes bs

/-- The value of a digit in either case, or none. -/
def hexValue (c : Char) : Option Nat :=
  if c.toLower ∈ hexDigits then some (hexDigits.idxOf c.toLower) else none

/-- The bytes of the hex string `ld` takes; none for an odd number of digits or another character. -/
def bytesOfHex : List Char → Option (List Byte)
  | [] => some []
  | [_] => none
  | h :: l :: rest => do
    let hi ← hexValue h
    let lo ← hexValue l
    let bs ← bytesOfHex rest
    return BitVec.ofNat 8 (16 * hi + lo) :: bs

end Sys2Proof.Machine
end

