-- ==== Sys2Proof/Safety.lean ====
section
/-! DEFINITION. What counts as a good state of the block, in the terms the statements use: the relations between its
registers that the spec states or that follow from its rules. -/

namespace Sys2Proof.Machine

/-- Whether a command needs a key: its rule checks KV (R283). -/
def needsKey : Instr → Bool
  | .nop _ => false
  | .gfAdd _ => false
  | .gfMul _ => false
  | .blkXor _ => false
  | .sub _ => false
  | .subInv _ => false
  | .lcomb _ => false
  | .rstep _ => false
  | .rstepInv _ => false
  | .lin _ => false
  | .linInv _ => false
  | .rcon _ => false
  | .feistel _ => false
  | .expandKey _ => false
  | .encBlock _ => true
  | .decBlock _ => true
  | .ctrInit _ => false
  | .ctrChunk _ => true

/-- The invariant of the block. -/
structure State.Inv (s : State) : Prop where
  /-- ERRCODE is 0x00 when ERR = 0 (R39). -/
  errcodeClear : s.err = false → s.errcode = 0
  /-- ERRCODE holds one of the codes 0x01 to 0x06 when ERR = 1 (R281). -/
  errcodeSet : s.err = true → 1 ≤ s.errcode.toNat ∧ s.errcode.toNat ≤ 6
  /-- DONE is 0 while a command is in flight: the accepted issue cleared it and a busy issue leaves it (R130). -/
  busyNotDone : s.pend ≠ none → s.done = false
  /-- ARG is what it was at the issue of the command in flight (R43, R135). -/
  argFrozen : ∀ i, s.pend = some i → i.arg = s.arg
  /-- The command in flight has passed its check of the operand byte (R103, R130). -/
  pendLegal : ∀ i, s.pend = some i → i.wellFormed = true
  /-- The command in flight has passed its check of the key (R130, R283). -/
  pendKeyed : ∀ i, s.pend = some i → needsKey i = true → s.kv = true
  /-- A chunk in flight belongs to an open stream (R130, R266). -/
  pendStreamed : ∀ n, s.pend = some (.ctrChunk n) → s.ctrv = true
  /-- KV is 1 only if RK holds an expanded key (R41). -/
  keyValid : s.kv = true → ∃ key, s.rk = expand key
  /-- RK holds its reset value while KV is 0 (R40, R41, R49). -/
  keyAbsent : s.kv = false → s.rk = State.reset.rk

end Sys2Proof.Machine
end

