-- ==== Sys2Proof/Certificates/Slice0/Obligations.lean ====
section
/-! DEFINITION. The statements about the block, for the provers. Each docstring names the rule of the spec it
formalises. Blocks are written as the spec writes them, lane 0 first (00_scope.md R12). -/

namespace Sys2Proof.Spec

open Sys2Proof Sys2Proof.Machine

/-! ## Words the statements share -/

/-- The state after an error of code `c` is recorded (60_exceptions.md R282). -/
def recorded (c : Byte) (s : State) : State :=
  { s with err := true, errcode := if s.err then s.errcode else c }

/-- The ranges of the 238 reserved OP values, as 30_encoding.md R105 lists them. -/
def reservedOp (n : Nat) : Bool :=
  (0x04 ≤ n && n ≤ 0x0F) || (0x12 ≤ n && n ≤ 0x1F) || (0x25 ≤ n && n ≤ 0x2F) || (0x33 ≤ n && n ≤ 0x3F) ||
    (0x42 ≤ n && n ≤ 0x4F) || (0x52 ≤ n && n ≤ 0xFF)

/-- The code of the first check of a command that fails at its issue, or none (60_exceptions.md R283). -/
def ownError (i : Instr) (s : State) : Option Byte :=
  match i with
  | .rcon a => if a.toNat < 1 ∨ a.toNat > 32 then some 0x03 else none
  | .encBlock _ => if s.kv = false then some 0x04 else none
  | .decBlock _ => if s.kv = false then some 0x04 else none
  | .ctrChunk n =>
    if s.kv = false then some 0x04
    else if s.ctrv = false then some 0x05
    else if n.toNat < 1 ∨ n.toNat > 16 then some 0x02
    else none
  | .nop _ => none
  | .gfAdd _ => none
  | .gfMul _ => none
  | .blkXor _ => none
  | .sub _ => none
  | .subInv _ => none
  | .lcomb _ => none
  | .rstep _ => none
  | .rstepInv _ => none
  | .lin _ => none
  | .linInv _ => none
  | .feistel _ => none
  | .expandKey _ => none
  | .ctrInit _ => none

/-- Whether the opcode map's "writes" column of a command names DOUT_A (30_encoding.md R104). -/
def writesDoutA : Instr → Bool
  | .nop _ => false
  | .expandKey _ => false
  | .ctrInit _ => false
  | .gfAdd _ => true
  | .gfMul _ => true
  | .blkXor _ => true
  | .sub _ => true
  | .subInv _ => true
  | .lcomb _ => true
  | .rstep _ => true
  | .rstepInv _ => true
  | .lin _ => true
  | .linInv _ => true
  | .rcon _ => true
  | .feistel _ => true
  | .encBlock _ => true
  | .decBlock _ => true
  | .ctrChunk _ => true

/-- The engine moves next: its event is at the head, or no event is left (log entry 1). -/
def engineMoves (s : State) : Prop := s.events = [] ∨ ∃ rest, s.events = .engine :: rest

/-- A transaction of the host on the bus: a read or a write. (A turn of `wait` is a read too; how many there are depends
on the engine, which Obligations.WaitReadsUntilIdle says.) -/
def onBus : Event → Bool
  | .rd _ => true
  | .wr _ _ => true
  | .poll _ => false
  | .reset => false
  | .engine => false

/-- The most steps an event takes: a loop `wait` of k further turns takes k + 1 reads that find BUSY = 1, the engine's
move and the read that finds BUSY = 0; every other event takes one. -/
def stepsOf : Event → Nat
  | .rd _ => 1
  | .wr _ _ => 1
  | .poll turns => turns + 3
  | .reset => 1
  | .engine => 1

/-- The most steps the events take. -/
def stepsOfAll (es : List Event) : Nat := (es.map stepsOf).sum

/-- The carry-less product of two numbers, b below 2^8: the product of the polynomials over GF(2) whose coefficients
are the bits (41_galois.md R151). -/
def carryless (a b : Nat) : Nat :=
  (List.range 8).foldl (fun p k => if b.testBit k then p ^^^ (a <<< k) else p) 0

/-- The block with 0x01 in lane j and 0x00 elsewhere (43_linear.md R197). -/
def unitBlock (j : Fin 16) : Block := Vector.ofFn fun i => if i = j then 1 else 0

/-- The rows 0 to 7 of the matrix of L (43_linear.md R197). -/
def matrixTop : List Block :=
  [#v[0xcf, 0x98, 0x74, 0xbf, 0x93, 0x8e, 0xf2, 0xf3, 0x0a, 0xbf, 0xf6, 0xa9, 0xea, 0x8e, 0x4d, 0x6e],
   #v[0x6e, 0x20, 0xc6, 0xda, 0x90, 0x48, 0x89, 0x9c, 0xc1, 0x64, 0xb8, 0x2d, 0x86, 0x44, 0xd0, 0xa2],
   #v[0xa2, 0xc8, 0x87, 0x70, 0x68, 0x43, 0x1c, 0x2b, 0xa1, 0x63, 0x30, 0x6b, 0x9f, 0x30, 0xe3, 0x76],
   #v[0x76, 0x33, 0x10, 0x0c, 0x1c, 0x11, 0xd6, 0x6a, 0xa6, 0xd7, 0xf6, 0x49, 0x07, 0x14, 0xe8, 0x72],
   #v[0x72, 0xf2, 0x6b, 0xca, 0x20, 0xeb, 0x02, 0xa4, 0x8d, 0xd4, 0xc4, 0x01, 0x65, 0xdd, 0x4c, 0x6c],
   #v[0x6c, 0x76, 0xec, 0x0c, 0xc5, 0xbc, 0xaf, 0x6e, 0xa3, 0xe1, 0x90, 0x58, 0x0e, 0x02, 0xc3, 0x48],
   #v[0x48, 0xd5, 0x62, 0x17, 0x06, 0x2d, 0xc4, 0xe7, 0xd5, 0xeb, 0x99, 0x78, 0x52, 0xf5, 0x16, 0x7a],
   #v[0x7a, 0xe6, 0x4e, 0x1a, 0xbb, 0x2e, 0xf1, 0xbe, 0xd4, 0xaf, 0x37, 0xb1, 0xd4, 0x2a, 0x6e, 0xb8]]

/-- The rows 8 to 15 of the matrix of L (43_linear.md R197). -/
def matrixBottom : List Block :=
  [#v[0xb8, 0x49, 0x87, 0x14, 0xcb, 0x8d, 0xab, 0x49, 0x09, 0x6c, 0x2a, 0x01, 0x60, 0x8e, 0x4b, 0x5d],
   #v[0x5d, 0xd4, 0xb8, 0x2f, 0x8d, 0x12, 0xee, 0xf6, 0x08, 0x54, 0x0f, 0xf3, 0x98, 0xc8, 0x7f, 0x27],
   #v[0x27, 0x9f, 0xbe, 0x68, 0x1a, 0x7c, 0xad, 0xc9, 0x84, 0x2f, 0xeb, 0xfe, 0xc6, 0x48, 0xa2, 0xbd],
   #v[0xbd, 0x95, 0x5e, 0x30, 0xe9, 0x60, 0xbf, 0x10, 0xef, 0x39, 0xec, 0x91, 0x7f, 0x48, 0x89, 0x10],
   #v[0x10, 0xe9, 0xd0, 0xd9, 0xf3, 0x94, 0x3d, 0xaf, 0x7b, 0xff, 0x64, 0x91, 0x52, 0xf8, 0x0d, 0xdd],
   #v[0xdd, 0x99, 0x75, 0xca, 0x97, 0x44, 0x5a, 0xe0, 0x30, 0xa6, 0x31, 0xd3, 0xdf, 0x48, 0x64, 0x84],
   #v[0x84, 0x2d, 0x74, 0x96, 0x5d, 0x77, 0x6f, 0xde, 0x54, 0xb4, 0x8d, 0xd1, 0x44, 0x3c, 0xa5, 0x94],
   #v[0x94, 0x20, 0x85, 0x10, 0xc2, 0xc0, 0x01, 0xfb, 0x01, 0xc0, 0xc2, 0x10, 0x85, 0x20, 0x94, 0x01]]

/-- The matrix of L, row by row: the row is the output lane (43_linear.md R197). -/
def matrixL : List Block := matrixTop ++ matrixBottom

/-- C1 to C8 (44_keyschedule.md R220). -/
def constants0 : List Block :=
  [#v[0x6e, 0xa2, 0x76, 0x72, 0x6c, 0x48, 0x7a, 0xb8, 0x5d, 0x27, 0xbd, 0x10, 0xdd, 0x84, 0x94, 0x01],
   #v[0xdc, 0x87, 0xec, 0xe4, 0xd8, 0x90, 0xf4, 0xb3, 0xba, 0x4e, 0xb9, 0x20, 0x79, 0xcb, 0xeb, 0x02],
   #v[0xb2, 0x25, 0x9a, 0x96, 0xb4, 0xd8, 0x8e, 0x0b, 0xe7, 0x69, 0x04, 0x30, 0xa4, 0x4f, 0x7f, 0x03],
   #v[0x7b, 0xcd, 0x1b, 0x0b, 0x73, 0xe3, 0x2b, 0xa5, 0xb7, 0x9c, 0xb1, 0x40, 0xf2, 0x55, 0x15, 0x04],
   #v[0x15, 0x6f, 0x6d, 0x79, 0x1f, 0xab, 0x51, 0x1d, 0xea, 0xbb, 0x0c, 0x50, 0x2f, 0xd1, 0x81, 0x05],
   #v[0xa7, 0x4a, 0xf7, 0xef, 0xab, 0x73, 0xdf, 0x16, 0x0d, 0xd2, 0x08, 0x60, 0x8b, 0x9e, 0xfe, 0x06],
   #v[0xc9, 0xe8, 0x81, 0x9d, 0xc7, 0x3b, 0xa5, 0xae, 0x50, 0xf5, 0xb5, 0x70, 0x56, 0x1a, 0x6a, 0x07],
   #v[0xf6, 0x59, 0x36, 0x16, 0xe6, 0x05, 0x56, 0x89, 0xad, 0xfb, 0xa1, 0x80, 0x27, 0xaa, 0x2a, 0x08]]

/-- C9 to C16 (44_keyschedule.md R220). -/
def constants1 : List Block :=
  [#v[0x98, 0xfb, 0x40, 0x64, 0x8a, 0x4d, 0x2c, 0x31, 0xf0, 0xdc, 0x1c, 0x90, 0xfa, 0x2e, 0xbe, 0x09],
   #v[0x2a, 0xde, 0xda, 0xf2, 0x3e, 0x95, 0xa2, 0x3a, 0x17, 0xb5, 0x18, 0xa0, 0x5e, 0x61, 0xc1, 0x0a],
   #v[0x44, 0x7c, 0xac, 0x80, 0x52, 0xdd, 0xd8, 0x82, 0x4a, 0x92, 0xa5, 0xb0, 0x83, 0xe5, 0x55, 0x0b],
   #v[0x8d, 0x94, 0x2d, 0x1d, 0x95, 0xe6, 0x7d, 0x2c, 0x1a, 0x67, 0x10, 0xc0, 0xd5, 0xff, 0x3f, 0x0c],
   #v[0xe3, 0x36, 0x5b, 0x6f, 0xf9, 0xae, 0x07, 0x94, 0x47, 0x40, 0xad, 0xd0, 0x08, 0x7b, 0xab, 0x0d],
   #v[0x51, 0x13, 0xc1, 0xf9, 0x4d, 0x76, 0x89, 0x9f, 0xa0, 0x29, 0xa9, 0xe0, 0xac, 0x34, 0xd4, 0x0e],
   #v[0x3f, 0xb1, 0xb7, 0x8b, 0x21, 0x3e, 0xf3, 0x27, 0xfd, 0x0e, 0x14, 0xf0, 0x71, 0xb0, 0x40, 0x0f],
   #v[0x2f, 0xb2, 0x6c, 0x2c, 0x0f, 0x0a, 0xac, 0xd1, 0x99, 0x35, 0x81, 0xc3, 0x4e, 0x97, 0x54, 0x10]]

/-- C17 to C24 (44_keyschedule.md R220). -/
def constants2 : List Block :=
  [#v[0x41, 0x10, 0x1a, 0x5e, 0x63, 0x42, 0xd6, 0x69, 0xc4, 0x12, 0x3c, 0xd3, 0x93, 0x13, 0xc0, 0x11],
   #v[0xf3, 0x35, 0x80, 0xc8, 0xd7, 0x9a, 0x58, 0x62, 0x23, 0x7b, 0x38, 0xe3, 0x37, 0x5c, 0xbf, 0x12],
   #v[0x9d, 0x97, 0xf6, 0xba, 0xbb, 0xd2, 0x22, 0xda, 0x7e, 0x5c, 0x85, 0xf3, 0xea, 0xd8, 0x2b, 0x13],
   #v[0x54, 0x7f, 0x77, 0x27, 0x7c, 0xe9, 0x87, 0x74, 0x2e, 0xa9, 0x30, 0x83, 0xbc, 0xc2, 0x41, 0x14],
   #v[0x3a, 0xdd, 0x01, 0x55, 0x10, 0xa1, 0xfd, 0xcc, 0x73, 0x8e, 0x8d, 0x93, 0x61, 0x46, 0xd5, 0x15],
   #v[0x88, 0xf8, 0x9b, 0xc3, 0xa4, 0x79, 0x73, 0xc7, 0x94, 0xe7, 0x89, 0xa3, 0xc5, 0x09, 0xaa, 0x16],
   #v[0xe6, 0x5a, 0xed, 0xb1, 0xc8, 0x31, 0x09, 0x7f, 0xc9, 0xc0, 0x34, 0xb3, 0x18, 0x8d, 0x3e, 0x17],
   #v[0xd9, 0xeb, 0x5a, 0x3a, 0xe9, 0x0f, 0xfa, 0x58, 0x34, 0xce, 0x20, 0x43, 0x69, 0x3d, 0x7e, 0x18]]

/-- C25 to C32 (44_keyschedule.md R220). -/
def constants3 : List Block :=
  [#v[0xb7, 0x49, 0x2c, 0x48, 0x85, 0x47, 0x80, 0xe0, 0x69, 0xe9, 0x9d, 0x53, 0xb4, 0xb9, 0xea, 0x19],
   #v[0x05, 0x6c, 0xb6, 0xde, 0x31, 0x9f, 0x0e, 0xeb, 0x8e, 0x80, 0x99, 0x63, 0x10, 0xf6, 0x95, 0x1a],
   #v[0x6b, 0xce, 0xc0, 0xac, 0x5d, 0xd7, 0x74, 0x53, 0xd3, 0xa7, 0x24, 0x73, 0xcd, 0x72, 0x01, 0x1b],
   #v[0xa2, 0x26, 0x41, 0x31, 0x9a, 0xec, 0xd1, 0xfd, 0x83, 0x52, 0x91, 0x03, 0x9b, 0x68, 0x6b, 0x1c],
   #v[0xcc, 0x84, 0x37, 0x43, 0xf6, 0xa4, 0xab, 0x45, 0xde, 0x75, 0x2c, 0x13, 0x46, 0xec, 0xff, 0x1d],
   #v[0x7e, 0xa1, 0xad, 0xd5, 0x42, 0x7c, 0x25, 0x4e, 0x39, 0x1c, 0x28, 0x23, 0xe2, 0xa3, 0x80, 0x1e],
   #v[0x10, 0x03, 0xdb, 0xa7, 0x2e, 0x34, 0x5f, 0xf6, 0x64, 0x3b, 0x95, 0x33, 0x3f, 0x27, 0x14, 0x1f],
   #v[0x5e, 0xa7, 0xd8, 0x58, 0x1e, 0x14, 0x9b, 0x61, 0xf1, 0x6a, 0xc1, 0x45, 0x9c, 0xed, 0xa8, 0x20]]

/-- The 32 round constants as the spec's table gives them, C1 first (44_keyschedule.md R220). -/
def constantTable : List Block := constants0 ++ constants1 ++ constants2 ++ constants3

/-- A message as chunks of (length, bytes in lanes 0..length-1): all but the last of 16 bytes, the last of 1 to 16
(46_counter.md R264). -/
def partitioned : List (Byte × Block) → Bool
  | [] => true
  | [c] => 1 ≤ c.1.toNat && c.1.toNat ≤ 16
  | c :: cs => c.1 == 16 && partitioned cs

/-- The bytes of a chunk, left-aligned, with 0x00 in the lanes it does not use. -/
def chunkBytes (c : Byte × Block) : Block := Vector.ofFn fun j => if j.val < c.1.toNat then c.2[j] else 0

/-- The host sends chunks: for each, the data in DIN_A, the length to ARG, the opcode of CTR_CHUNK to CMD, the
engine's completion, and DOUT_A taken as the output (70_reset_and_hazards.md R315). -/
def sendChunks : List (Byte × Block) → State → Option (List Block)
  | [], _ => some []
  | c :: cs, s =>
    match Host.Core.run Sys2Proof.core 3
        { s with dinA := c.2, events := [.wr 0xF1 c.1, .wr 0xF0 0x51, .engine] } with
    | .next t => (sendChunks cs t).map (t.doutA :: ·)
    | .fault _ => none
    | .refused _ => none

/-- A whole stream: CTR_INIT, then the chunks (46_counter.md R265, R266). -/
def sendStream (cs : List (Byte × Block)) (s : State) : Option (List Block) :=
  match Host.Core.run Sys2Proof.core 2 { s with events := [.wr 0xF0 0x50, .engine] } with
  | .next t => sendChunks cs t
  | .fault _ => none
  | .refused _ => none

end Sys2Proof.Spec

open Sys2Proof Sys2Proof.Machine

/-! ## Encoding -/

/-- Decoding and encoding agree, in both directions, on every command with every operand byte and whatever bytes
follow (30_encoding.md R101, R104, R107). -/
def Obligations.DecodeInvertsEncode : Prop :=
  (∀ (i : Instr) (rest : List Byte), decode (encode i ++ rest) = .ok (i, rest)) ∧
  (∀ (bytes rest : List Byte) (i : Instr), decode bytes = .ok (i, rest) → bytes = encode i ++ rest)

/-- Command words written out from the opcode map decode to their commands, one word or more of each family, the
spec's own words 0x1051 and 0x2030 among them (30_encoding.md R101, R104; 95_test_vectors.md P2, P3). -/
def Obligations.TableWordsDecode : Prop :=
  decodeTableWord 16 0x0000 = some (.nop 0x00) ∧ decodeTableWord 16 0x0001 = some (.gfAdd 0x00) ∧
  decodeTableWord 16 0xFF11 = some (.subInv 0xFF) ∧ decodeTableWord 16 0x0022 = some (.rstepInv 0x00) ∧
  decodeTableWord 16 0x2030 = some (.rcon 0x20) ∧ decodeTableWord 16 0x0032 = some (.expandKey 0x00) ∧
  decodeTableWord 16 0x0041 = some (.decBlock 0x00) ∧ decodeTableWord 16 0x1051 = some (.ctrChunk 0x10) ∧
  decodeTableWord 8 0x50 = some (.ctrInit 0x00) ∧ decodeTableWord 16 0x0004 = none

/-- The 238 reserved OP values are no command, whatever ARG holds; issuing one with BUSY = 0 is rejected with
ILLEGAL_CMD and changes only DONE, ERR and ERRCODE; with BUSY = 1 it records BUSY_ERR (30_encoding.md R105). -/
def Obligations.ReservedOpsAreRejected : Prop :=
  ((List.range 256).filter Spec.reservedOp).length = 238 ∧
  (∀ op arg : Byte, decodeOp op arg = none ↔ Spec.reservedOp op.toNat = true) ∧
  (∀ (s : State) (rest : List Event) (op : Byte), Spec.reservedOp op.toNat = true →
    s.events = .wr 0xF0 op :: rest →
    (s.pend = none → step s = .next { Spec.recorded 0x01 s with events := rest, done := true }) ∧
    (s.pend ≠ none → step s = .next { Spec.recorded 0x06 s with events := rest }))

/-! ## The sequencer -/

/-- A step runs the decoded command: when the host writes OP to CMD with nothing in flight and the word (OP, ARG)
decodes to i, the step is exec of i at that state with the event taken and DONE cleared; while BUSY the command is
dropped (40_sequencer.md R130; 20_memory.md R84). -/
def Obligations.CmdWriteRunsDecodedCommand : Prop :=
  ∀ (s : State) (rest : List Event) (op : Byte), s.events = .wr 0xF0 op :: rest →
    (∀ i, s.pend = none → decode [op, s.arg] = .ok (i, []) →
      step s = exec i { s with events := rest, done := false }) ∧
    (∀ j, s.pend = some j → step s = .next { Spec.recorded 0x06 s with events := rest })

/-- The engine's turn runs the command in flight, and only that: it is enabled exactly when PEND holds a command
(40_sequencer.md R134). That the engine also moves when no event is left, and that an idle block with no event stays
as it is, are the model's choice (log entry 1). -/
def Obligations.EngineTurnRunsPendingCommand : Prop :=
  ∀ (s : State) (rest : List Event),
    (∀ i, s.events = .engine :: rest → s.pend = some i → step s = exec i { s with events := rest }) ∧
    (∀ i, s.events = [] → s.pend = some i → step s = exec i s) ∧
    (s.events = .engine :: rest → s.pend = none → step s = .next { s with events := rest }) ∧
    (s.events = [] → s.pend = none → step s = .next s)

/-- The placed command word runs in the very next step (the model's own: log entry 8). -/
def Obligations.PlacedWordRunsNext : Prop :=
  ∀ (s : State) (nbits w : Nat) (i : Instr), decodeTableWord nbits w = some i →
    step (s.withFetchWord nbits w) = exec i { s with arg := i.arg, pend := none, done := false }

/-- The whole of an issue: BUSY, then the legality of OP, then the command's own checks in the order of R283; the
first failure is recorded, and a command that fails none is accepted (40_sequencer.md R130, R131, R137;
60_exceptions.md R283). -/
def Obligations.IssueReportsFirstFailure : Prop :=
  ∀ (s : State) (rest : List Event) (op : Byte), s.events = .wr 0xF0 op :: rest →
    step s = .next (
      match s.pend, decodeOp op s.arg with
      | some _, _ => { Spec.recorded 0x06 s with events := rest }
      | none, none => { Spec.recorded 0x01 s with events := rest, done := true }
      | none, some i =>
        match Spec.ownError i s with
        | some c => { Spec.recorded c s with events := rest, done := true }
        | none => { s with events := rest, done := false, pend := some i })

/-- A completion answers a next state, clears BUSY, sets DONE, records no error, and writes only the registers the
opcode map names for its command; a result register it names it writes whole, whatever was there before
(40_sequencer.md R134, R136; 30_encoding.md R104). -/
def Obligations.CompletionWritesOnlyNamedRegisters : Prop :=
  ∀ (i : Instr) (s : State), s.pend = some i → ∃ t, exec i s = .next t ∧
    t.pend = none ∧ t.done = true ∧ t.err = s.err ∧ t.errcode = s.errcode ∧
    t.dinA = s.dinA ∧ t.dinB = s.dinB ∧ t.dinC = s.dinC ∧ t.key = s.key ∧ t.iv = s.iv ∧ t.arg = s.arg ∧
    t.events = s.events ∧ t.reads = s.reads ∧ t.draws = s.draws ∧
    (Spec.writesDoutA i = false → t.doutA = s.doutA) ∧
    ((∀ a, i ≠ .feistel a) → t.doutB = s.doutB) ∧
    ((∀ a, i ≠ .expandKey a) → t.rk = s.rk ∧ t.kv = s.kv) ∧
    ((∀ a, i ≠ .ctrInit a) → (∀ a, i ≠ .ctrChunk a) → t.ctr = s.ctr) ∧
    ((∀ a, i ≠ .ctrInit a) → (∀ a, i ≠ .ctrChunk a) → (∀ a, i ≠ .expandKey a) → t.ctrv = s.ctrv) ∧
    (∀ a b : Block, ∃ t', exec i { s with doutA := a, doutB := b } = .next t' ∧
      (Spec.writesDoutA i = true → t'.doutA = t.doutA) ∧ (∀ x, i = .feistel x → t'.doutB = t.doutB))

/-- While a command is in flight no host transaction changes a register that a command reads or writes, and its
completion gives the same results after any number of them as at once (40_sequencer.md R135). -/
def Obligations.CompletionPointIsImmaterial : Prop :=
  ∀ (hs rest : List Event) (i : Instr) (s : State), (∀ e ∈ hs, Spec.onBus e = true) → s.events = hs ++ rest →
    s.pend = some i →
    ∃ t, Host.Core.run Sys2Proof.core hs.length s = .next t ∧ t.events = rest ∧ t.pend = some i ∧
      t.dinA = s.dinA ∧ t.dinB = s.dinB ∧ t.dinC = s.dinC ∧ t.key = s.key ∧ t.iv = s.iv ∧ t.arg = s.arg ∧
      t.ctr = s.ctr ∧ t.rk = s.rk ∧ t.kv = s.kv ∧ t.ctrv = s.ctrv ∧ t.doutA = s.doutA ∧ t.doutB = s.doutB ∧
      ∃ u v, exec i t = .next u ∧ exec i s = .next v ∧ u.doutA = v.doutA ∧ u.doutB = v.doutB ∧ u.ctr = v.ctr ∧
        u.rk = v.rk ∧ u.kv = v.kv ∧ u.ctrv = v.ctrv

/-- Every accepted command completes unless the block is reset: with i in flight and no reset to come, the run reaches,
with i in flight all the way, a step that is exec of i, and that step ends the command. Whatever comes, no run is stopped,
and when the events have been taken and the engine has had one more turn nothing is in flight (40_sequencer.md R132;
that the engine moves when no event is left is the model's reading of its weak fairness, log entry 1). -/
def Obligations.EveryCommandCompletes : Prop :=
  (∀ (s : State) (i : Instr), s.pend = some i → Event.reset ∉ s.events →
    ∃ n u v, n ≤ Spec.stepsOfAll s.events ∧ Host.Core.run Sys2Proof.core n s = .next u ∧
      (∀ m, m ≤ n → ∃ w, Host.Core.run Sys2Proof.core m s = .next w ∧ w.pend = some i) ∧
      Spec.engineMoves u ∧ step u = exec i { u with events := u.events.tail } ∧
      step u = .next v ∧ v.pend = none ∧ v.done = true) ∧
  (∀ s : State, ∃ n t, n ≤ Spec.stepsOfAll s.events + 1 ∧ Host.Core.run Sys2Proof.core n s = .next t ∧ t.events = [] ∧
    t.pend = none)

/-! ## Errors -/

/-- An error is synchronous with the host's write that causes it, a CMD write or a dropped write of an input register;
it changes only ERR, ERRCODE and, for a rejected issue, DONE; it never comes at a completion; and no step of the block
stops (60_exceptions.md R280). -/
def Obligations.ErrorsAreSynchronousAndNeverStop : Prop :=
  (∀ s : State, ∃ t, step s = .next t) ∧
  (∀ s t : State, step s = .next t → s.err = false → t.err = true →
    ∃ a v rest, s.events = .wr a v :: rest ∧
      t = { s with events := rest, err := true, errcode := t.errcode, done := t.done } ∧
      (t.done ≠ s.done → a = 0xF0) ∧
      (a = 0xF0 ∨ (s.pend ≠ none ∧ (a.toNat < 0x30 ∨ (0x50 ≤ a.toNat ∧ a.toNat < 0x78) ∨ a = 0xF1)))) ∧
  (∀ s t : State, Spec.engineMoves s → step s = .next t → t.err = s.err ∧ t.errcode = s.errcode)

/-- The first error wins: with ERR = 1, ERR and ERRCODE stay as they are at every step but a reset and a write of
STATUS with bit 2 set (60_exceptions.md R282, R288). -/
def Obligations.FirstErrorIsKept : Prop :=
  ∀ s t : State, s.err = true → (∀ rest, s.events ≠ .reset :: rest) →
    (∀ (v : Byte) rest, v.getLsbD 2 = true → s.events ≠ .wr 0xF2 v :: rest) → step s = .next t →
    t.err = true ∧ t.errcode = s.errcode

/-- A host write of STATUS clears DONE where bit 1 is written 1, and ERR and ERRCODE where bit 2 is; it changes nothing
else, whether or not a command is in flight (10_state.md R38; 60_exceptions.md R288). -/
def Obligations.StatusWriteClearsErrors : Prop :=
  ∀ (s : State) (rest : List Event) (v : Byte), s.events = .wr 0xF2 v :: rest →
    step s = .next { s with
      events := rest
      done := if v.getLsbD 1 = true then false else s.done
      err := if v.getLsbD 2 = true then false else s.err
      errcode := if v.getLsbD 2 = true then 0 else s.errcode }

/-! ## The register window -/

/-- `HostRead(a)` for every address: the byte returned, and that no register changes (20_memory.md R74). `reads` and
`draws` are the model's own record of the byte returned and of the free draws (log entries 2 and 3). -/
def Obligations.HostReadReturnsRegister : Prop :=
  ∀ (s : State) (rest : List Event) (a : Byte), s.events = .rd a :: rest →
    (∀ k (h : k < 16), a.toNat = k → step s = .next { s with events := rest, reads := s.reads ++ [s.dinA[k]] }) ∧
    (∀ k (h : k < 16), a.toNat = 0x10 + k → step s = .next { s with events := rest, reads := s.reads ++ [s.dinB[k]] }) ∧
    (∀ k (h : k < 16), a.toNat = 0x20 + k → step s = .next { s with events := rest, reads := s.reads ++ [s.dinC[k]] }) ∧
    (∀ k (h : k < 16), a.toNat = 0x30 + k → s.pend = none →
      step s = .next { s with events := rest, reads := s.reads ++ [s.doutA[k]] }) ∧
    (∀ k (h : k < 16), a.toNat = 0x40 + k → s.pend = none →
      step s = .next { s with events := rest, reads := s.reads ++ [s.doutB[k]] }) ∧
    (0x50 ≤ a.toNat → a.toNat ≤ 0x6F → step s = .next { s with events := rest, reads := s.reads ++ [0x00] }) ∧
    (∀ k (h : k < 8), a.toNat = 0x70 + k → step s = .next { s with events := rest, reads := s.reads ++ [s.iv[k]] }) ∧
    (∀ k (h : k < 16), a.toNat = 0x80 + k → s.pend = none →
      step s = .next { s with events := rest, reads := s.reads ++ [s.ctr[k]] }) ∧
    (a.toNat = 0xF0 → step s = .next { s with events := rest, reads := s.reads ++ [0x00] }) ∧
    (a.toNat = 0xF1 → step s = .next { s with events := rest, reads := s.reads ++ [s.arg] }) ∧
    (a.toNat = 0xF2 → step s = .next { s with
      events := rest
      reads := s.reads ++ [(BitVec.ofNat 8 (16 * s.ctrv.toNat + 8 * s.kv.toNat + 4 * s.err.toNat + 2 * s.done.toNat +
        s.pend.isSome.toNat))] }) ∧
    (a.toNat = 0xF3 → step s = .next { s with events := rest, reads := s.reads ++ [s.errcode] }) ∧
    ((0x78 ≤ a.toNat ∧ a.toNat ≤ 0x7F) ∨ (0x90 ≤ a.toNat ∧ a.toNat ≤ 0xEF) ∨ 0xF4 ≤ a.toNat →
      step s = .next { s with events := rest, reads := s.reads ++ [0x00] }) ∧
    ((0x30 ≤ a.toNat ∧ a.toNat ≤ 0x4F) ∨ (0x80 ≤ a.toNat ∧ a.toNat ≤ 0x8F) → s.pend ≠ none →
      ∃ b : Byte, step s = .next { s with events := rest, reads := s.reads ++ [b], draws := s.draws + 1 })

/-- `HostWrite(a, v)` for every address: a store where nothing is in flight, a dropped store that records BUSY_ERR
while a command is, an issue, a STATUS write, or nothing (20_memory.md R75). What `issue` does is
Obligations.IssueReportsFirstFailure's. -/
def Obligations.HostWriteStoresOrDrops : Prop :=
  ∀ (s : State) (rest : List Event) (a v : Byte), s.events = .wr a v :: rest →
    (∀ k (h : k < 16), a.toNat = k → s.pend = none →
      step s = .next { s with events := rest, dinA := s.dinA.set k v }) ∧
    (∀ k (h : k < 16), a.toNat = 0x10 + k → s.pend = none →
      step s = .next { s with events := rest, dinB := s.dinB.set k v }) ∧
    (∀ k (h : k < 16), a.toNat = 0x20 + k → s.pend = none →
      step s = .next { s with events := rest, dinC := s.dinC.set k v }) ∧
    (∀ k (h : k < 32), a.toNat = 0x50 + k → s.pend = none →
      step s = .next { s with events := rest, key := s.key.set k v }) ∧
    (∀ k (h : k < 8), a.toNat = 0x70 + k → s.pend = none →
      step s = .next { s with events := rest, iv := s.iv.set k v }) ∧
    (a.toNat = 0xF1 → s.pend = none → step s = .next { s with events := rest, arg := v }) ∧
    (a.toNat < 0x30 ∨ (0x50 ≤ a.toNat ∧ a.toNat ≤ 0x77) ∨ a.toNat = 0xF1 → s.pend ≠ none →
      step s = .next { Spec.recorded 0x06 s with events := rest }) ∧
    (a.toNat = 0xF0 → step s = issue v { s with events := rest }) ∧
    (a.toNat = 0xF2 → step s = .next { s with
      events := rest
      done := if v.getLsbD 1 = true then false else s.done
      err := if v.getLsbD 2 = true then false else s.err
      errcode := if v.getLsbD 2 = true then 0 else s.errcode }) ∧
    ((0x30 ≤ a.toNat ∧ a.toNat ≤ 0x4F) ∨ (0x78 ≤ a.toNat ∧ a.toNat ≤ 0xEF) ∨ 0xF3 ≤ a.toNat →
      step s = .next { s with events := rest })

/-- The statements of host programs expand to the transactions the spec gives them: `wr`, `rd`, `ld` with n bytes in
ascending order from the base of its register, `st`, `cmd` with and without an argument, `clr`; and the names stand for
their base addresses (30_encoding.md R108, R109). An address past 0xFF is taken modulo 256, the model's choice (log entry
13). -/
def Obligations.HostStatementsExpand : Prop :=
  (∀ a v : Byte, HostStmt.expand (.wr a v) = [.wr a v] ∧ HostStmt.expand (.rd a) = [.rd a]) ∧
  (∀ (r : RegName) (bytes : List Byte), (HostStmt.expand (.ld r bytes)).length = bytes.length ∧
    ∀ k (h : k < bytes.length),
      (HostStmt.expand (.ld r bytes))[k]? = some (.wr (BitVec.ofNat 8 (r.base + k)) bytes[k])) ∧
  (∀ r : RegName, (HostStmt.expand (.st r)).length = r.size ∧
    ∀ k, k < r.size → (HostStmt.expand (.st r))[k]? = some (.rd (BitVec.ofNat 8 (r.base + k)))) ∧
  (∀ op arg : Byte, HostStmt.expand (.cmd op) = [.wr 0xF0 op] ∧
    HostStmt.expand (.cmdArg op arg) = [.wr 0xF1 arg, .wr 0xF0 op]) ∧
  HostStmt.expand .clr = [.wr 0xF2 0x06] ∧
  [RegName.dinA, .dinB, .dinC, .doutA, .doutB, .key, .iv, .ctr, .cmd, .arg, .status, .errcode].map RegName.base =
    [0x00, 0x10, 0x20, 0x30, 0x40, 0x50, 0x70, 0x80, 0xF0, 0xF1, 0xF2, 0xF3]

/-- The pseudo-instruction `ld`, run on an idle block, leaves exactly its bytes in its register, the first byte lowest,
and changes no other: for DIN_A, DIN_B, DIN_C, KEY, IV and ARG; a shorter string leaves the bytes it does not reach
(30_encoding.md R109; 20_memory.md R73). -/
def Obligations.LoadFillsOperandRegister : Prop :=
  ∀ (s : State) (rest : List Event), s.pend = none →
    (∀ b : Block, Host.Core.run Sys2Proof.core 16 { s with events := HostStmt.expand (.ld .dinA b.toList) ++ rest } =
      .next { s with events := rest, dinA := b }) ∧
    (∀ b : Block, Host.Core.run Sys2Proof.core 16 { s with events := HostStmt.expand (.ld .dinB b.toList) ++ rest } =
      .next { s with events := rest, dinB := b }) ∧
    (∀ b : Block, Host.Core.run Sys2Proof.core 16 { s with events := HostStmt.expand (.ld .dinC b.toList) ++ rest } =
      .next { s with events := rest, dinC := b }) ∧
    (∀ b : KeyBytes, Host.Core.run Sys2Proof.core 32 { s with events := HostStmt.expand (.ld .key b.toList) ++ rest } =
      .next { s with events := rest, key := b }) ∧
    (∀ b : IvBytes, Host.Core.run Sys2Proof.core 8 { s with events := HostStmt.expand (.ld .iv b.toList) ++ rest } =
      .next { s with events := rest, iv := b }) ∧
    (∀ v : Byte, Host.Core.run Sys2Proof.core 1 { s with events := HostStmt.expand (.ld .arg [v]) ++ rest } =
      .next { s with events := rest, arg := v }) ∧
    (∀ (b : Block) (n : Nat), n ≤ 16 →
      Host.Core.run Sys2Proof.core n { s with events := HostStmt.expand (.ld .dinA (b.toList.take n)) ++ rest } =
        .next { s with events := rest, dinA := Vector.ofFn fun j => if j.val < n then b[j] else s.dinA[j] })

/-- The pseudo-instruction `st`, run on an idle block, yields the bytes of its register in order, KEY and CMD as zeros,
and changes no register (30_encoding.md R109; 20_memory.md R74). `reads` is the model's own record of the bytes returned
(log entry 3). -/
def Obligations.StoreYieldsRegister : Prop :=
  ∀ (s : State) (rest : List Event), s.pend = none →
    let gives (r : RegName) (bytes : List Byte) : Prop :=
      ∃ t, Host.Core.run Sys2Proof.core r.size { s with events := HostStmt.expand (.st r) ++ rest } = .next t ∧
        t = { s with events := rest, reads := s.reads ++ bytes } ∧ (HostStmt.st r).yielded t = bytes
    gives .dinA s.dinA.toList ∧ gives .dinB s.dinB.toList ∧ gives .dinC s.dinC.toList ∧
    gives .doutA s.doutA.toList ∧ gives .doutB s.doutB.toList ∧ gives .key (List.replicate 32 0x00) ∧
    gives .iv s.iv.toList ∧ gives .ctr s.ctr.toList ∧ gives .cmd [0x00] ∧ gives .arg [s.arg] ∧
    gives .status [s.statusByte] ∧ gives .errcode [s.errcode]

/-- The loop `wait`: on an idle block it reads STATUS once and ends; with a command in flight it reads STATUS, with bit 0
set, as many times as the scheduler lets it, then the command completes, and a last read with bit 0 clear ends it
(30_encoding.md R109; 40_sequencer.md R132; 20_memory.md R81). That the completion comes after a given number of turns
is the scheduler's choice, held as data (log entry 9). -/
def Obligations.WaitReadsUntilIdle : Prop :=
  ∀ (s : State) (rest : List Event) (turns : Nat),
    (s.pend = none → s.statusByte.getLsbD 0 = false ∧
      Host.Core.run Sys2Proof.core 1 { s with events := HostStmt.expand (.wait turns) ++ rest } =
        .next { s with events := rest, reads := s.reads ++ [s.statusByte] }) ∧
    (∀ i, s.pend = some i → s.statusByte.getLsbD 0 = true ∧
      ∃ v, exec i { s with
          events := .poll 0 :: rest
          reads := s.reads ++ List.replicate (turns + 1) s.statusByte } = .next v ∧
        v.statusByte.getLsbD 0 = false ∧
        Host.Core.run Sys2Proof.core (turns + 3) { s with events := HostStmt.expand (.wait turns) ++ rest } =
          .next { v with events := rest, reads := v.reads ++ [v.statusByte] })

/-- A hex string has two digits per byte, the first two byte 0, and reads back as the bytes it was written from
(30_encoding.md R109; 00_scope.md R12). -/
def Obligations.HexStringsReadBack : Prop :=
  (∀ bytes : List Byte, bytesOfHex (hexOfBytes bytes) = some bytes ∧ (hexOfBytes bytes).length = 2 * bytes.length) ∧
  (∀ (b : Byte) (bytes : List Byte), hexOfBytes (b :: bytes) = hexOfBytes [b] ++ hexOfBytes bytes) ∧
  bytesOfHex ['8', '8', '9', '9', 'a', 'a'] = some [0x88, 0x99, 0xaa]

/-! ## Secrets and the key -/

/-- No read returns anything of KEY or RK: what any read leaves on the bus does not depend on them (10_state.md R33,
R40; 60_exceptions.md R291). -/
def Obligations.KeyAndScheduleCannotBeRead : Prop :=
  ∀ (s : State) (key : KeyBytes) (rk : RoundKeys) (a : Byte),
    (State.busRead a { s with key := key, rk := rk }).reads = (State.busRead a s).reads

/-- Only EXPAND_KEY reads KEY: any step but its completion takes states that differ in KEY alone to states that differ
in KEY alone (10_state.md R33). -/
def Obligations.OnlyExpandKeyReadsKey : Prop :=
  ∀ (s t : State) (key : KeyBytes), step s = .next t →
    (Spec.engineMoves s → ∀ a, s.pend ≠ some (.expandKey a)) →
    ∃ key', step { s with key := key } = .next { t with key := key' }

/-- RK and KV change only when EXPAND_KEY completes, which writes expand(KEY) and sets KV, and at a reset, which
clears both (10_state.md R40, R41). -/
def Obligations.ScheduleChangesOnlyByExpandKey : Prop :=
  ∀ s t : State, step s = .next t →
    (t.rk = s.rk ∧ t.kv = s.kv) ∨
    (Spec.engineMoves s ∧ (∃ a, s.pend = some (.expandKey a)) ∧ t.rk = expand s.key ∧ t.kv = true) ∨
    ((∃ rest, s.events = .reset :: rest) ∧ t.rk = Vector.replicate 10 (Vector.replicate 16 0) ∧ t.kv = false)

/-- A stream opens when CTR_INIT completes and closes when a CTR_CHUNK of fewer than 16 bytes or an EXPAND_KEY
completes and at a reset; CTRV changes at no other step (10_state.md R42; 46_counter.md R265, R266). -/
def Obligations.StreamOpensAndCloses : Prop :=
  ∀ s t : State, step s = .next t →
    (∀ rest, s.events = .reset :: rest → t.ctrv = false) ∧
    (∀ a, Spec.engineMoves s → s.pend = some (.ctrInit a) → t.ctrv = true) ∧
    (∀ n, Spec.engineMoves s → s.pend = some (.ctrChunk n) →
      t.ctrv = if n.toNat < 16 then false else s.ctrv) ∧
    (∀ a, Spec.engineMoves s → s.pend = some (.expandKey a) → t.ctrv = false) ∧
    ((∀ rest, s.events ≠ .reset :: rest) →
      (Spec.engineMoves s → (∀ a, s.pend ≠ some (.ctrInit a)) ∧ (∀ a, s.pend ≠ some (.ctrChunk a)) ∧
        (∀ a, s.pend ≠ some (.expandKey a))) →
      t.ctrv = s.ctrv)

/-! ## Reset and the invariant -/

/-- After reset, and after a reset event in any state, every piece of the block's state holds the value of the table of
10_state.md R49; a command in flight is gone (70_reset_and_hazards.md R310). -/
def Obligations.ResetGivesTheTable : Prop :=
  let tabled (t : State) : Prop :=
    t.dinA = Vector.replicate 16 0 ∧ t.dinB = Vector.replicate 16 0 ∧ t.dinC = Vector.replicate 16 0 ∧
    t.doutA = Vector.replicate 16 0 ∧ t.doutB = Vector.replicate 16 0 ∧ t.key = Vector.replicate 32 0 ∧
    t.iv = Vector.replicate 8 0 ∧ t.ctr = Vector.replicate 16 0 ∧ t.arg = 0 ∧ t.statusByte = 0 ∧
    t.done = false ∧ t.err = false ∧ t.kv = false ∧ t.ctrv = false ∧ t.errcode = 0 ∧
    t.rk = Vector.replicate 10 (Vector.replicate 16 0) ∧ t.pend = none
  tabled State.reset ∧
  ∀ (s : State) (rest : List Event), s.events = .reset :: rest →
    ∃ t, step s = .next t ∧ tabled t ∧ t.events = rest

/-- The invariant of the block holds after reset (10_state.md R39, R41, R49). -/
def Obligations.InvariantHoldsAtReset : Prop := State.reset.Inv

/-- Every step keeps the invariant of the block: ERRCODE agrees with ERR, DONE is 0 while BUSY, the command in flight
has passed its checks and its ARG is frozen, and KV is 1 exactly when RK holds an expanded key (10_state.md R39, R41,
R43; 40_sequencer.md R130, R135). -/
def Obligations.StepKeepsInvariant : Prop :=
  ∀ s t : State, s.Inv → step s = .next t → t.Inv

/-! ## The commands: encoding, checks, effect and frame of each (the next state is given whole) -/

/-- NOP: no check, no effect; only BUSY and DONE are written, so ERR and ERRCODE stay; from reset, an issue and a
completion leave STATUS = 0x02 (40_sequencer.md R138). -/
def Obligations.NopCommand : Prop :=
  (∀ (arg : Byte) (s : State),
    decodeOp 0x00 arg = some (.nop arg) ∧
    (s.pend = none → exec (.nop arg) s = .next { s with pend := some (.nop arg) }) ∧
    (s.pend = some (.nop arg) →
      exec (.nop arg) s = .next { s with
        pend := none
        done := true })) ∧
  (∃ t, Host.Core.run Sys2Proof.core 2 { State.reset with events := [.wr 0xF0 0x00, .engine] } = .next t ∧
    t.statusByte = 0x02)

/-- GF_ADD (41_galois.md R155, with gf_add of R150). -/
def Obligations.GfAddCommand : Prop :=
  (∀ (arg : Byte) (s : State),
    decodeOp 0x01 arg = some (.gfAdd arg) ∧
    (s.pend = none → exec (.gfAdd arg) s = .next { s with pend := some (.gfAdd arg) }) ∧
    (s.pend = some (.gfAdd arg) →
      exec (.gfAdd arg) s = .next { s with
        doutA := #v[s.dinA[0] ^^^ s.dinB[0], 0, 0, 0, 0, 0, 0, 0, 0, 0, 0, 0, 0, 0, 0, 0]
        pend := none
        done := true })) ∧
  (∀ a b : Byte, gfAdd a b = a ^^^ b ∧ gfAdd a a = 0 ∧ gfAdd a 0 = a) ∧ gfAdd 0x57 0x83 = 0xd4

/-- GF_MUL (41_galois.md R156). -/
def Obligations.GfMulCommand : Prop :=
  (∀ (arg : Byte) (s : State),
    decodeOp 0x02 arg = some (.gfMul arg) ∧
    (s.pend = none → exec (.gfMul arg) s = .next { s with pend := some (.gfMul arg) }) ∧
    (s.pend = some (.gfMul arg) →
      exec (.gfMul arg) s = .next { s with
        doutA := #v[gfMul s.dinA[0] s.dinB[0], 0, 0, 0, 0, 0, 0, 0, 0, 0, 0, 0, 0, 0, 0, 0]
        pend := none
        done := true })) ∧
  (∀ a b : Byte, gfMul a 0 = 0 ∧ gfMul 0 a = 0 ∧ gfMul 0x01 b = b ∧ gfMul a b = gfMul b a) ∧
  gfMul 0x02 0x80 = 0xc3 ∧ gfMul 0x80 0x80 = 0x77 ∧ gfMul 0xff 0xff = 0x06 ∧ gfMul 0x02 0xe1 = 0x01 ∧
  gfMul 0x94 0x02 = 0xeb

/-- BLK_XOR (41_galois.md R157, with xblk of R153). -/
def Obligations.BlkXorCommand : Prop :=
  (∀ (arg : Byte) (s : State),
    decodeOp 0x03 arg = some (.blkXor arg) ∧
    (s.pend = none → exec (.blkXor arg) s = .next { s with pend := some (.blkXor arg) }) ∧
    (s.pend = some (.blkXor arg) →
      exec (.blkXor arg) s = .next { s with
        doutA := Vector.ofFn fun i => s.dinA[i] ^^^ s.dinB[i]
        pend := none
        done := true })) ∧
  (∀ a b : Block, xblk a b = Vector.ofFn (fun i => gfAdd a[i] b[i])) ∧
  (∀ a : Block, xblk a a = Vector.replicate 16 0 ∧ xblk a (Vector.replicate 16 0) = a) ∧
  (∀ (a b a' b' : Block) (i : Fin 16), a[i] = a'[i] → b[i] = b'[i] → (xblk a b)[i] = (xblk a' b')[i]) ∧
  xblk #v[0x11, 0x22, 0x33, 0x44, 0x55, 0x66, 0x77, 0x00, 0xff, 0xee, 0xdd, 0xcc, 0xbb, 0xaa, 0x99, 0x88]
    #v[0x88, 0x99, 0xaa, 0xbb, 0xcc, 0xdd, 0xee, 0xff, 0x00, 0x11, 0x22, 0x33, 0x44, 0x55, 0x66, 0x77] =
      #v[0x99, 0xbb, 0x99, 0xff, 0x99, 0xbb, 0x99, 0xff, 0xff, 0xff, 0xff, 0xff, 0xff, 0xff, 0xff, 0xff]

/-- SUB (42_substitution.md R173). -/
def Obligations.SubCommand : Prop :=
  (∀ (arg : Byte) (s : State),
    decodeOp 0x10 arg = some (.sub arg) ∧
    (s.pend = none → exec (.sub arg) s = .next { s with pend := some (.sub arg) }) ∧
    (s.pend = some (.sub arg) →
      exec (.sub arg) s = .next { s with
        doutA := Vector.ofFn fun i => sbox s.dinA[i]
        pend := none
        done := true })) ∧
  sblk (Vector.replicate 16 0) = Vector.replicate 16 0xfc ∧
  (∀ (a : Block) (i j : Fin 16), a[i] = a[j] → (sblk a)[i] = (sblk a)[j]) ∧
  sblk #v[0xff, 0xee, 0xdd, 0xcc, 0xbb, 0xaa, 0x99, 0x88, 0x11, 0x22, 0x33, 0x44, 0x55, 0x66, 0x77, 0x00] =
    #v[0xb6, 0x6c, 0xd8, 0x88, 0x7d, 0x38, 0xe8, 0xd7, 0x77, 0x65, 0xae, 0xea, 0x0c, 0x9a, 0x7e, 0xfc]

/-- SUB_INV (42_substitution.md R174). -/
def Obligations.SubInvCommand : Prop :=
  (∀ (arg : Byte) (s : State),
    decodeOp 0x11 arg = some (.subInv arg) ∧
    (s.pend = none → exec (.subInv arg) s = .next { s with pend := some (.subInv arg) }) ∧
    (s.pend = some (.subInv arg) →
      exec (.subInv arg) s = .next { s with
        doutA := Vector.ofFn fun i => sboxInv s.dinA[i]
        pend := none
        done := true })) ∧
  sinvblk (Vector.replicate 16 0) = Vector.replicate 16 0xa5 ∧
  (∀ a : Block, sblk (sinvblk a) = a) ∧
  sinvblk #v[0xb6, 0x6c, 0xd8, 0x88, 0x7d, 0x38, 0xe8, 0xd7, 0x77, 0x65, 0xae, 0xea, 0x0c, 0x9a, 0x7e, 0xfc] =
    #v[0xff, 0xee, 0xdd, 0xcc, 0xbb, 0xaa, 0x99, 0x88, 0x11, 0x22, 0x33, 0x44, 0x55, 0x66, 0x77, 0x00]

/-- LCOMB (43_linear.md R200); lcomb of the unit blocks gives the multipliers of R190. -/
def Obligations.LcombCommand : Prop :=
  (∀ (arg : Byte) (s : State),
    decodeOp 0x20 arg = some (.lcomb arg) ∧
    (s.pend = none → exec (.lcomb arg) s = .next { s with pend := some (.lcomb arg) }) ∧
    (s.pend = some (.lcomb arg) →
      exec (.lcomb arg) s = .next { s with
        doutA := #v[lcomb s.dinA, 0, 0, 0, 0, 0, 0, 0, 0, 0, 0, 0, 0, 0, 0, 0]
        pend := none
        done := true })) ∧
  (∀ i : Fin 16, lcomb (Spec.unitBlock i) =
    (#v[0x94, 0x20, 0x85, 0x10, 0xc2, 0xc0, 0x01, 0xfb, 0x01, 0xc0, 0xc2, 0x10, 0x85, 0x20, 0x94, 0x01] : Block)[i]) ∧
  lcomb (Vector.replicate 16 0) = 0 ∧ lcomb (Vector.replicate 16 0xff) = 0x83 ∧
  lcomb #v[0x11, 0x22, 0x33, 0x44, 0x55, 0x66, 0x77, 0x00, 0xff, 0xee, 0xdd, 0xcc, 0xbb, 0xaa, 0x99, 0x88] = 0xf5

/-- RSTEP (43_linear.md R201). -/
def Obligations.RstepCommand : Prop :=
  (∀ (arg : Byte) (s : State),
    decodeOp 0x21 arg = some (.rstep arg) ∧
    (s.pend = none → exec (.rstep arg) s = .next { s with pend := some (.rstep arg) }) ∧
    (s.pend = some (.rstep arg) →
      exec (.rstep arg) s = .next { s with
        doutA := rstep s.dinA
        pend := none
        done := true })) ∧
  rstep (Vector.replicate 16 0) = Vector.replicate 16 0 ∧
  (∀ (a : Block) (x : Byte), rstep (a.set 15 x) = (rstep a).set 0 ((rstep a)[0] ^^^ a[15] ^^^ x)) ∧
  rstep #v[0x00, 0x00, 0x00, 0x00, 0x00, 0x00, 0x00, 0x00, 0x00, 0x00, 0x00, 0x00, 0x00, 0x00, 0x01, 0x00] =
    #v[0x94, 0x00, 0x00, 0x00, 0x00, 0x00, 0x00, 0x00, 0x00, 0x00, 0x00, 0x00, 0x00, 0x00, 0x00, 0x01]

/-- RSTEP_INV (43_linear.md R202). -/
def Obligations.RstepInvCommand : Prop :=
  (∀ (arg : Byte) (s : State),
    decodeOp 0x22 arg = some (.rstepInv arg) ∧
    (s.pend = none → exec (.rstepInv arg) s = .next { s with pend := some (.rstepInv arg) }) ∧
    (s.pend = some (.rstepInv arg) →
      exec (.rstepInv arg) s = .next { s with
        doutA := rstepInv s.dinA
        pend := none
        done := true })) ∧
  rstepInv (Vector.replicate 16 0) = Vector.replicate 16 0 ∧ (∀ a : Block, rstep (rstepInv a) = a) ∧
  rstepInv #v[0x94, 0x00, 0x00, 0x00, 0x00, 0x00, 0x00, 0x00, 0x00, 0x00, 0x00, 0x00, 0x00, 0x00, 0x00, 0x01] =
    #v[0x00, 0x00, 0x00, 0x00, 0x00, 0x00, 0x00, 0x00, 0x00, 0x00, 0x00, 0x00, 0x00, 0x00, 0x01, 0x00] ∧
  rstepInv #v[0xa5, 0x94, 0x00, 0x00, 0x00, 0x00, 0x00, 0x00, 0x00, 0x00, 0x00, 0x00, 0x00, 0x00, 0x00, 0x00] =
    #v[0x94, 0x00, 0x00, 0x00, 0x00, 0x00, 0x00, 0x00, 0x00, 0x00, 0x00, 0x00, 0x00, 0x00, 0x00, 0x01]

/-- LIN (43_linear.md R203). -/
def Obligations.LinCommand : Prop :=
  (∀ (arg : Byte) (s : State),
    decodeOp 0x23 arg = some (.lin arg) ∧
    (s.pend = none → exec (.lin arg) s = .next { s with pend := some (.lin arg) }) ∧
    (s.pend = some (.lin arg) →
      exec (.lin arg) s = .next { s with
        doutA := lmap s.dinA
        pend := none
        done := true })) ∧
  lmap (Vector.replicate 16 0) = Vector.replicate 16 0 ∧
  lmap (be128 1) = #v[0x6e, 0xa2, 0x76, 0x72, 0x6c, 0x48, 0x7a, 0xb8, 0x5d, 0x27, 0xbd, 0x10, 0xdd, 0x84, 0x94, 0x01] ∧
  lmap (Vector.replicate 16 0xff) =
    #v[0x27, 0x67, 0x6b, 0x81, 0x58, 0xe0, 0x30, 0x8f, 0xd1, 0x82, 0x6e, 0x7f, 0xb3, 0x4f, 0xd3, 0x83] ∧
  lmap #v[0x64, 0xa5, 0x94, 0x00, 0x00, 0x00, 0x00, 0x00, 0x00, 0x00, 0x00, 0x00, 0x00, 0x00, 0x00, 0x00] =
    #v[0xd4, 0x56, 0x58, 0x4d, 0xd0, 0xe3, 0xe8, 0x4c, 0xc3, 0x16, 0x6e, 0x4b, 0x7f, 0xa2, 0x89, 0x0d]

/-- LIN_INV (43_linear.md R204). -/
def Obligations.LinInvCommand : Prop :=
  (∀ (arg : Byte) (s : State),
    decodeOp 0x24 arg = some (.linInv arg) ∧
    (s.pend = none → exec (.linInv arg) s = .next { s with pend := some (.linInv arg) }) ∧
    (s.pend = some (.linInv arg) →
      exec (.linInv arg) s = .next { s with
        doutA := linv s.dinA
        pend := none
        done := true })) ∧
  linv (Vector.replicate 16 0) = Vector.replicate 16 0 ∧ (∀ a : Block, lmap (linv a) = a) ∧
  linv (Vector.replicate 16 0xff) =
    #v[0x83, 0xd3, 0x4f, 0xb3, 0x7f, 0x6e, 0x82, 0xd1, 0x8f, 0x30, 0xe0, 0x58, 0x81, 0x6b, 0x67, 0x27] ∧
  linv #v[0xd4, 0x56, 0x58, 0x4d, 0xd0, 0xe3, 0xe8, 0x4c, 0xc3, 0x16, 0x6e, 0x4b, 0x7f, 0xa2, 0x89, 0x0d] =
    #v[0x64, 0xa5, 0x94, 0x00, 0x00, 0x00, 0x00, 0x00, 0x00, 0x00, 0x00, 0x00, 0x00, 0x00, 0x00, 0x00]

/-- RCON (44_keyschedule.md R225, with rc of R220): accepted for ARG in 1..32, rejected with OUT_OF_RANGE outside. -/
def Obligations.RconCommand : Prop :=
  (∀ (arg : Byte) (s : State),
    decodeOp 0x30 arg = some (.rcon arg) ∧
    (s.pend = none → 1 ≤ arg.toNat → arg.toNat ≤ 32 →
      exec (.rcon arg) s = .next { s with pend := some (.rcon arg) }) ∧
    (s.pend = none → arg.toNat < 1 ∨ arg.toNat > 32 →
      exec (.rcon arg) s = .next { Spec.recorded 0x03 s with done := true }) ∧
    (s.pend = some (.rcon arg) → 1 ≤ arg.toNat → arg.toNat ≤ 32 →
      exec (.rcon arg) s = .next { s with
        doutA := lmap (be128 arg.toNat)
        pend := none
        done := true })) ∧
  lmap (be128 1) = #v[0x6e, 0xa2, 0x76, 0x72, 0x6c, 0x48, 0x7a, 0xb8, 0x5d, 0x27, 0xbd, 0x10, 0xdd, 0x84, 0x94, 0x01] ∧
  lmap (be128 32) = #v[0x5e, 0xa7, 0xd8, 0x58, 0x1e, 0x14, 0x9b, 0x61, 0xf1, 0x6a, 0xc1, 0x45, 0x9c, 0xed, 0xa8, 0x20]

/-- FEISTEL (44_keyschedule.md R226, with feistel of R221); a second round with the halves swapped undoes it up to the
swap. -/
def Obligations.FeistelCommand : Prop :=
  (∀ (arg : Byte) (s : State),
    decodeOp 0x31 arg = some (.feistel arg) ∧
    (s.pend = none → exec (.feistel arg) s = .next { s with pend := some (.feistel arg) }) ∧
    (s.pend = some (.feistel arg) →
      exec (.feistel arg) s = .next { s with
        doutA := xblk (lmap (sblk (xblk s.dinC s.dinA))) s.dinB
        doutB := s.dinA
        pend := none
        done := true })) ∧
  (∀ c l r : Block, feistel c (feistel c l r).2 (feistel c l r).1 = (r, l)) ∧
  (∀ c r : Block, (feistel c c r).1 = xblk (lmap (Vector.replicate 16 0xfc)) r) ∧
  feistel #v[0x6e, 0xa2, 0x76, 0x72, 0x6c, 0x48, 0x7a, 0xb8, 0x5d, 0x27, 0xbd, 0x10, 0xdd, 0x84, 0x94, 0x01]
      #v[0x88, 0x99, 0xaa, 0xbb, 0xcc, 0xdd, 0xee, 0xff, 0x00, 0x11, 0x22, 0x33, 0x44, 0x55, 0x66, 0x77]
      #v[0xfe, 0xdc, 0xba, 0x98, 0x76, 0x54, 0x32, 0x10, 0x01, 0x23, 0x45, 0x67, 0x89, 0xab, 0xcd, 0xef] =
    (#v[0xc3, 0xd5, 0xfa, 0x01, 0xeb, 0xe3, 0x6f, 0x7a, 0x93, 0x74, 0x42, 0x7a, 0xd7, 0xca, 0x89, 0x49],
      #v[0x88, 0x99, 0xaa, 0xbb, 0xcc, 0xdd, 0xee, 0xff, 0x00, 0x11, 0x22, 0x33, 0x44, 0x55, 0x66, 0x77])

/-- EXPAND_KEY (44_keyschedule.md R227): it writes RK, KV and CTRV and nothing else; RK[0] and RK[1] are the halves of
KEY (R223). Its numeric examples are in Obligations.OfficialVectors. -/
def Obligations.ExpandKeyCommand : Prop :=
  (∀ (arg : Byte) (s : State),
    decodeOp 0x32 arg = some (.expandKey arg) ∧
    (s.pend = none → exec (.expandKey arg) s = .next { s with pend := some (.expandKey arg) }) ∧
    (s.pend = some (.expandKey arg) →
      exec (.expandKey arg) s = .next { s with
        rk := expand s.key
        kv := true
        ctrv := false
        pend := none
        done := true })) ∧
  (∀ (key : KeyBytes) (j : Fin 16), (expand key)[0][j] = key[j.val] ∧ (expand key)[1][j] = key[j.val + 16])

/-- ENC_BLOCK (45_blockcipher.md R245, its numeric examples aside): accepted with a key, rejected with NO_KEY without. -/
def Obligations.EncBlockCommand : Prop :=
  (∀ (arg : Byte) (s : State),
    decodeOp 0x40 arg = some (.encBlock arg) ∧
    (s.pend = none → s.kv = true → exec (.encBlock arg) s = .next { s with pend := some (.encBlock arg) }) ∧
    (s.pend = none → s.kv = false → exec (.encBlock arg) s = .next { Spec.recorded 0x04 s with done := true }) ∧
    (s.pend = some (.encBlock arg) →
      exec (.encBlock arg) s = .next { s with
        doutA := encrypt s.rk s.dinA
        pend := none
        done := true }))

/-- DEC_BLOCK (45_blockcipher.md R246, its numeric examples aside): accepted with a key, rejected with NO_KEY without. -/
def Obligations.DecBlockCommand : Prop :=
  (∀ (arg : Byte) (s : State),
    decodeOp 0x41 arg = some (.decBlock arg) ∧
    (s.pend = none → s.kv = true → exec (.decBlock arg) s = .next { s with pend := some (.decBlock arg) }) ∧
    (s.pend = none → s.kv = false → exec (.decBlock arg) s = .next { Spec.recorded 0x04 s with done := true }) ∧
    (s.pend = some (.decBlock arg) →
      exec (.decBlock arg) s = .next { s with
        doutA := decrypt s.rk s.dinA
        pend := none
        done := true }))

/-- CTR_INIT (46_counter.md R265): no key is needed; CTR becomes IV followed by 8 zero bytes, and a stream is open, also
where one was open before; an EXPAND_KEY after it closes the stream. -/
def Obligations.CtrInitCommand : Prop :=
  (∀ (arg : Byte) (s : State),
    decodeOp 0x50 arg = some (.ctrInit arg) ∧
    (s.pend = none → exec (.ctrInit arg) s = .next { s with pend := some (.ctrInit arg) }) ∧
    (s.pend = some (.ctrInit arg) →
      exec (.ctrInit arg) s = .next { s with
        ctr := Vector.ofFn fun i => if h : i.val < 8 then s.iv[i.val] else 0
        ctrv := true
        pend := none
        done := true })) ∧
  ctr0 #v[0x12, 0x34, 0x56, 0x78, 0x90, 0xab, 0xce, 0xf0] =
    #v[0x12, 0x34, 0x56, 0x78, 0x90, 0xab, 0xce, 0xf0, 0x00, 0x00, 0x00, 0x00, 0x00, 0x00, 0x00, 0x00] ∧
  (∀ (arg : Byte) (s : State), s.pend = some (.expandKey arg) →
    ∃ t, exec (.expandKey arg) s = .next t ∧ t.ctrv = false)

/-- CTR_CHUNK (46_counter.md R266, its numeric example aside): NO_KEY, then NO_COUNTER, then INVALID_LENGTH; a chunk
combines DIN_A with the keystream of CTR, zeroes the lanes beyond it, increments CTR, and closes the stream if short. -/
def Obligations.CtrChunkCommand : Prop :=
  (∀ (arg : Byte) (s : State),
    decodeOp 0x51 arg = some (.ctrChunk arg) ∧
    (s.pend = none → s.kv = true → s.ctrv = true → 1 ≤ arg.toNat → arg.toNat ≤ 16 →
      exec (.ctrChunk arg) s = .next { s with pend := some (.ctrChunk arg) }) ∧
    (s.pend = none → s.kv = false → exec (.ctrChunk arg) s = .next { Spec.recorded 0x04 s with done := true }) ∧
    (s.pend = none → s.kv = true → s.ctrv = false →
      exec (.ctrChunk arg) s = .next { Spec.recorded 0x05 s with done := true }) ∧
    (s.pend = none → s.kv = true → s.ctrv = true → arg.toNat < 1 ∨ arg.toNat > 16 →
      exec (.ctrChunk arg) s = .next { Spec.recorded 0x02 s with done := true }) ∧
    (s.pend = some (.ctrChunk arg) →
      exec (.ctrChunk arg) s = .next { s with
        doutA := Vector.ofFn fun j => if j.val < arg.toNat then s.dinA[j] ^^^ (encrypt s.rk s.ctr)[j] else 0
        ctr := be128 ((int128 s.ctr + 1) % 2 ^ 128)
        ctrv := if arg.toNat < 16 then false else s.ctrv
        pend := none
        done := true }))

/-! ## The algebra -/

/-- gf_mul(a, b) is the remainder of the carry-less product of a and b divided by x^8+x^7+x^6+x+1, bit pattern 0x1C3: the
product is a multiple of the polynomial plus the result, which has degree below 8 (41_galois.md R151). -/
def Obligations.GfMulIsPolynomialRemainder : Prop :=
  ∀ a b : Byte, ∃ q : Nat, q < 128 ∧
    Spec.carryless a.toNat b.toNat = Spec.carryless 0x1C3 q ^^^ (gfMul a b).toNat

/-- The laws of the field: gf_mul commutes, associates and distributes over gf_add; 1 is its unit and 0 its zero; every
element but 0 has one inverse; gf_add cancels itself (41_galois.md R152). -/
def Obligations.GfFieldLaws : Prop :=
  (∀ a b : Byte, gfMul a b = gfMul b a) ∧
  (∀ a b c : Byte, gfMul a (gfAdd b c) = gfAdd (gfMul a b) (gfMul a c)) ∧
  (∀ a b c : Byte, gfMul (gfMul a b) c = gfMul a (gfMul b c)) ∧
  (∀ a : Byte, gfMul 1 a = a ∧ gfMul 0 a = 0 ∧ gfAdd a a = 0) ∧
  (∀ a : Byte, a ≠ 0 → ∃ b, gfMul a b = 1 ∧ ∀ c, gfMul a c = 1 → c = b)

/-- The S-box table is a permutation and the second table its inverse, in both directions, byte by byte and lane by lane
(42_substitution.md R171, R172). -/
def Obligations.SubstitutionIsInverted : Prop :=
  (∀ x : Byte, sboxInv (sbox x) = x ∧ sbox (sboxInv x) = x) ∧
  (∀ (b : Block) (i : Fin 16), (sblk b)[i] = sbox b[i] ∧ (sinvblk b)[i] = sboxInv b[i]) ∧
  (∀ b : Block, sinvblk (sblk b) = b ∧ sblk (sinvblk b) = b) ∧
  sboxInv 0x00 = 0xa5 ∧ sboxInv 0xfc = 0x00 ∧ sboxInv 0xff = 0x74

/-- The feedback step shifts the lanes up and closes with lcomb, its inverse shifts them down, and each undoes the
other (43_linear.md R192, R193). -/
def Obligations.FeedbackStepIsInverted : Prop :=
  (∀ b : Block, (rstep b)[0] = lcomb b ∧ ∀ k (h : k < 15), (rstep b)[k + 1] = b[k]) ∧
  (∀ b : Block, (∀ k (h : k < 15), (rstepInv b)[k] = b[k + 1]) ∧
    (rstepInv b)[15] = lcomb #v[b[1], b[2], b[3], b[4], b[5], b[6], b[7], b[8], b[9], b[10], b[11], b[12], b[13],
      b[14], b[15], b[0]]) ∧
  (∀ b : Block, rstep (rstepInv b) = b ∧ rstepInv (rstep b) = b)

/-- L and its inverse undo each other on every block (43_linear.md R196). -/
def Obligations.LinearMapIsInverted : Prop := ∀ x : Block, linv (lmap x) = x ∧ lmap (linv x) = x

/-- The linear functions are linear, column j of the spec's matrix is lmap of the unit block j, and lmap is the product
with the matrix (43_linear.md R197). -/
def Obligations.LinearMapIsTheMatrix : Prop :=
  (∀ a b : Block, lcomb (xblk a b) = gfAdd (lcomb a) (lcomb b) ∧ rstep (xblk a b) = xblk (rstep a) (rstep b) ∧
    rstepInv (xblk a b) = xblk (rstepInv a) (rstepInv b) ∧ lmap (xblk a b) = xblk (lmap a) (lmap b) ∧
    linv (xblk a b) = xblk (linv a) (linv b)) ∧
  (∀ i j : Fin 16, (Spec.matrixL.getD i.val Block.zero)[j] = (lmap (Spec.unitBlock j))[i]) ∧
  (∀ (b : Block) (i : Fin 16), (lmap b)[i] =
    (List.finRange 16).foldl (fun c j => c ^^^ gfMul (Spec.matrixL.getD i.val Block.zero)[j] b[j]) 0)

/-- The 32 round constants are those of the spec's table, C1 to C32 (44_keyschedule.md R220). -/
def Obligations.RoundConstantsAreTheTable : Prop :=
  (List.range 32).map (fun i => roundConstant (i + 1)) = Spec.constantTable ∧
  (∀ i : Nat, 1 ≤ i → i ≤ 32 → roundConstant i = lmap (be128 i))

/-- encrypt runs the nine rounds in ascending order, each lmap(sblk(xblk(K[r], .))), then the XOR with K[9]; decrypt
runs the XOR with K[9], then the rounds in descending order, each xblk(K[r], sinvblk(linv(.))) (45_blockcipher.md R240,
R241). The blocks between the rounds are named: x r goes into round r of encrypt, y r comes out of round r of decrypt. -/
def Obligations.RoundsRunInOrder : Prop :=
  ∀ (ks : RoundKeys) (b : Block),
    (∃ x : Nat → Block, x 0 = b ∧ (∀ r (h : r < 9), x (r + 1) = lmap (sblk (xblk ks[r] (x r)))) ∧
      encrypt ks b = xblk ks[9] (x 9)) ∧
    (∃ y : Nat → Block, y 9 = xblk ks[9] b ∧ (∀ r (h : r < 9), y r = xblk ks[r] (sinvblk (linv (y (r + 1))))) ∧
      decrypt ks b = y 0)

/-- The schedule comes from 32 Feistel rounds in a row on the pair of key halves, round k with the constant C_k, each
constant used once, in ascending order; round keys 2i and 2i+1 are the pair after 8i rounds (44_keyschedule.md R222,
R223). -/
def Obligations.ScheduleRunsInOrder : Prop :=
  ∀ key : KeyBytes, ∃ p : Nat → Block × Block,
    (∀ j (h : j < 16), (p 0).1[j] = key[j] ∧ (p 0).2[j] = key[j + 16]) ∧
    (∀ k, k < 32 → p (k + 1) = (xblk (lmap (sblk (xblk (roundConstant (k + 1)) (p k).1))) (p k).2, (p k).1)) ∧
    (∀ i (h : i < 5), (expand key)[2 * i] = (p (8 * i)).1 ∧ (expand key)[2 * i + 1] = (p (8 * i)).2)

/-- decrypt undoes encrypt and encrypt undoes decrypt, for every schedule and every block (45_blockcipher.md R242). -/
def Obligations.DecryptInvertsEncrypt : Prop :=
  ∀ (ks : RoundKeys) (x : Block), decrypt ks (encrypt ks x) = x ∧ encrypt ks (decrypt ks x) = x

/-- The counter of chunk i of a stream is int64(IV) * 2^64 + i, modulo 2^128, big-endian; ctr_inc adds one, carries from
lane 15 toward lane 0 and wraps (46_counter.md R260, R261). -/
def Obligations.CounterCountsChunks : Prop :=
  (∀ iv : IvBytes, int128 (ctr0 iv) = int64 iv * 2 ^ 64) ∧
  (∀ (iv : IvBytes) (j : Fin 16), (ctr0 iv)[j] = if h : j.val < 8 then iv[j.val] else 0) ∧
  (∀ c : Block, ctrInc c = be128 ((int128 c + 1) % 2 ^ 128)) ∧
  (∀ (iv : IvBytes) (i : Nat), ctrInc^[i] (ctr0 iv) = be128 ((int64 iv * 2 ^ 64 + i) % 2 ^ 128)) ∧
  (∀ n : Nat, int128 (be128 n) = n % 2 ^ 128) ∧
  ctrInc (Vector.replicate 16 0xff) = Vector.replicate 16 0

/-- The same sequence encrypts and decrypts: a stream of chunks sent through the block, and its output sent again with
the same key, IV and chunk lengths, gives the message back (46_counter.md R264, R267). -/
def Obligations.StreamIsItsOwnInverse : Prop :=
  ∀ (cs : List (Byte × Block)) (s s' : State), Spec.partitioned cs = true →
    s.pend = none → s.kv = true → s'.pend = none → s'.kv = true → s'.rk = s.rk → s'.iv = s.iv →
    ∃ outs, Spec.sendStream cs s = some outs ∧ outs.length = cs.length ∧
      Spec.sendStream ((cs.map Prod.fst).zip outs) s' = some (cs.map Spec.chunkBytes)

/-- The official vector of GOST R 34.12-2015, the source's one expected value, in both directions, with the third and
the last round key of its schedule (95_test_vectors.md V1, V14; 44_keyschedule.md R227; 45_blockcipher.md R245,
R246). -/
def Obligations.OfficialVectors : Prop :=
  let ks := expand #v[0x88, 0x99, 0xaa, 0xbb, 0xcc, 0xdd, 0xee, 0xff, 0x00, 0x11, 0x22, 0x33, 0x44, 0x55, 0x66, 0x77,
    0xfe, 0xdc, 0xba, 0x98, 0x76, 0x54, 0x32, 0x10, 0x01, 0x23, 0x45, 0x67, 0x89, 0xab, 0xcd, 0xef]
  ks[2] = #v[0xdb, 0x31, 0x48, 0x53, 0x15, 0x69, 0x43, 0x43, 0x22, 0x8d, 0x6a, 0xef, 0x8c, 0xc7, 0x8c, 0x44] ∧
  ks[9] = #v[0x72, 0xe9, 0xdd, 0x74, 0x16, 0xbc, 0xf4, 0x5b, 0x75, 0x5d, 0xba, 0xa8, 0x8e, 0x4a, 0x40, 0x43] ∧
  encrypt ks #v[0x11, 0x22, 0x33, 0x44, 0x55, 0x66, 0x77, 0x00, 0xff, 0xee, 0xdd, 0xcc, 0xbb, 0xaa, 0x99, 0x88] =
    #v[0x7f, 0x67, 0x9d, 0x90, 0xbe, 0xbc, 0x24, 0x30, 0x5a, 0x46, 0x8d, 0x42, 0xb9, 0xd4, 0xed, 0xcd] ∧
  decrypt ks #v[0x7f, 0x67, 0x9d, 0x90, 0xbe, 0xbc, 0x24, 0x30, 0x5a, 0x46, 0x8d, 0x42, 0xb9, 0xd4, 0xed, 0xcd] =
    #v[0x11, 0x22, 0x33, 0x44, 0x55, 0x66, 0x77, 0x00, 0xff, 0xee, 0xdd, 0xcc, 0xbb, 0xaa, 0x99, 0x88]
end

