-- ==== Sys2Proof/Laws/Algebra.lean ====
section
/-! SUPPORT. The lanes of every block operation, and the loops of gf_mul and lcomb written out. -/

namespace Sys2Proof.Machine

/-! ## Lanes -/

@[simp] theorem xblk_lane (a b : Block) (i : Nat) (h : i < 16) : (xblk a b)[i] = a[i] ^^^ b[i] := by
  simp [xblk, gfAdd]

@[simp] theorem sblk_lane (b : Block) (i : Nat) (h : i < 16) : (sblk b)[i] = sbox b[i] := by simp [sblk]

@[simp] theorem sinvblk_lane (b : Block) (i : Nat) (h : i < 16) : (sinvblk b)[i] = sboxInv b[i] := by
  simp [sinvblk]

@[simp] theorem byteResult_lane (v : Byte) (i : Nat) (h : i < 16) : (byteResult v)[i] = if i = 0 then v else 0 := by
  simp [byteResult]

@[simp] theorem rstep_lane_zero (b : Block) : (rstep b)[0] = lcomb b := by simp [rstep]

@[simp] theorem rstep_lane_succ (b : Block) (k : Nat) (h : k + 1 < 16) : (rstep b)[k + 1] = b[k] := by
  simp [rstep]

theorem rotateLanes_lane (b : Block) (i : Nat) (h : i < 16) :
    (rotateLanes b)[i] = if h' : i < 15 then b[i + 1] else b[0] := by
  simp [rotateLanes]

theorem rstepInv_lane (b : Block) (i : Nat) (h : i < 16) :
    (rstepInv b)[i] = if h' : i < 15 then b[i + 1] else lcomb (rotateLanes b) := by
  simp [rstepInv]

@[simp] theorem chunkOutput_lane (n : Nat) (d ks : Block) (j : Nat) (h : j < 16) :
    (chunkOutput n d ks)[j] = if j < n then d[j] ^^^ ks[j] else 0 := by
  simp [chunkOutput]

@[simp] theorem be128_lane (n i : Nat) (h : i < 16) : (be128 n)[i] = BitVec.ofNat 8 (n / 256 ^ (15 - i)) := by
  simp [be128]

@[simp] theorem ctr0_lane (iv : IvBytes) (i : Nat) (h : i < 16) :
    (ctr0 iv)[i] = if h' : i < 8 then iv[i] else 0 := by
  simp [ctr0]

@[simp] theorem keyLeft_lane (key : KeyBytes) (i : Nat) (h : i < 16) : (keyLeft key)[i] = key[i] := by
  simp [keyLeft]

@[simp] theorem keyRight_lane (key : KeyBytes) (i : Nat) (h : i < 16) : (keyRight key)[i] = key[i + 16] := by
  simp [keyRight]

/-! ## gf_mul -/

/-- Doubling is xor-linear. -/
theorem gfDouble_xor (s t : Byte) : gfDouble (s ^^^ t) = gfDouble s ^^^ gfDouble t := by
  simp only [gfDouble, BitVec.getLsbD_xor, BitVec.shiftLeft_xor_distrib]
  cases s.getLsbD 7 <;> cases t.getLsbD 7 <;> simp only [Bool.xor_false, Bool.xor_true, Bool.not_true, Bool.not_false,
    if_true, if_false, Bool.false_eq_true]
  · ac_rfl
  · ac_rfl
  · calc s <<< 1 ^^^ t <<< 1 = s <<< 1 ^^^ t <<< 1 ^^^ (0xC3 ^^^ 0xC3) := by simp
      _ = _ := by ac_rfl

/-- The term bit k of b contributes to a product: the copy doubled k times, or nothing. -/
def gfTerm (a b : Byte) (k : Nat) : Byte := if b.getLsbD k then gfDouble^[k] a else 0

theorem gfMulTurn_term (a b p : Byte) (k : Nat) :
    gfMulTurn b (p, gfDouble^[k] a) k = (p ^^^ gfTerm a b k, gfDouble^[k + 1] a) := by
  unfold gfMulTurn gfTerm
  rw [Function.iterate_succ_apply']
  split <;> simp

/-- The first n turns of gf_mul's loop: the sum of n terms, and the copy doubled n times. -/
theorem gfMul_loop (a b : Byte) (n : Nat) :
    (List.range n).foldl (gfMulTurn b) (0, a) =
      ((List.range n).foldl (fun p k => p ^^^ gfTerm a b k) 0, gfDouble^[n] a) := by
  induction n with
  | zero => rfl
  | succ n ih => rw [List.range_succ, List.foldl_append, List.foldl_append, ih]; exact gfMulTurn_term ..

/-- gf_mul as the sum of its eight terms. -/
theorem gfMul_eq_terms (a b : Byte) :
    gfMul a b = gfTerm a b 0 ^^^ gfTerm a b 1 ^^^ gfTerm a b 2 ^^^ gfTerm a b 3 ^^^ gfTerm a b 4 ^^^
      gfTerm a b 5 ^^^ gfTerm a b 6 ^^^ gfTerm a b 7 := by
  rw [gfMul, gfMul_loop]
  simp [List.range, List.range.loop]

/-! ## lcomb -/

/-- lcomb as the sum of its sixteen products. -/
theorem lcomb_eq_sum (b : Block) :
    lcomb b = gfMul 148 b[0] ^^^ gfMul 32 b[1] ^^^ gfMul 133 b[2] ^^^ gfMul 16 b[3] ^^^ gfMul 194 b[4] ^^^
      gfMul 192 b[5] ^^^ gfMul 1 b[6] ^^^ gfMul 251 b[7] ^^^ gfMul 1 b[8] ^^^ gfMul 192 b[9] ^^^
      gfMul 194 b[10] ^^^ gfMul 16 b[11] ^^^ gfMul 133 b[12] ^^^ gfMul 32 b[13] ^^^ gfMul 148 b[14] ^^^
      gfMul 1 b[15] := by
  have h : List.finRange 16 = [0, 1, 2, 3, 4, 5, 6, 7, 8, 9, 10, 11, 12, 13, 14, 15] := rfl
  unfold lcomb
  rw [h]
  simp [gfAdd, multipliers]

end Sys2Proof.Machine
end

