-- ==== Sys2Proof/Laws/State.lean ====
section
/-! SUPPORT. The fields of every named update of the state: one lemma per field per update, each true by unfolding. -/

namespace Sys2Proof.Machine

/-! `recordError` -/

@[simp] theorem State.recordError_dinA (e : ErrorKind) (s : State) : (s.recordError e).dinA = s.dinA := rfl
@[simp] theorem State.recordError_dinB (e : ErrorKind) (s : State) : (s.recordError e).dinB = s.dinB := rfl
@[simp] theorem State.recordError_dinC (e : ErrorKind) (s : State) : (s.recordError e).dinC = s.dinC := rfl
@[simp] theorem State.recordError_doutA (e : ErrorKind) (s : State) : (s.recordError e).doutA = s.doutA := rfl
@[simp] theorem State.recordError_doutB (e : ErrorKind) (s : State) : (s.recordError e).doutB = s.doutB := rfl
@[simp] theorem State.recordError_key (e : ErrorKind) (s : State) : (s.recordError e).key = s.key := rfl
@[simp] theorem State.recordError_iv (e : ErrorKind) (s : State) : (s.recordError e).iv = s.iv := rfl
@[simp] theorem State.recordError_ctr (e : ErrorKind) (s : State) : (s.recordError e).ctr = s.ctr := rfl
@[simp] theorem State.recordError_arg (e : ErrorKind) (s : State) : (s.recordError e).arg = s.arg := rfl
@[simp] theorem State.recordError_done (e : ErrorKind) (s : State) : (s.recordError e).done = s.done := rfl
@[simp] theorem State.recordError_err (e : ErrorKind) (s : State) : (s.recordError e).err = true := rfl
@[simp] theorem State.recordError_kv (e : ErrorKind) (s : State) : (s.recordError e).kv = s.kv := rfl
@[simp] theorem State.recordError_ctrv (e : ErrorKind) (s : State) : (s.recordError e).ctrv = s.ctrv := rfl
@[simp] theorem State.recordError_errcode (e : ErrorKind) (s : State) : (s.recordError e).errcode = if s.err then s.errcode else e.code := rfl
@[simp] theorem State.recordError_rk (e : ErrorKind) (s : State) : (s.recordError e).rk = s.rk := rfl
@[simp] theorem State.recordError_pend (e : ErrorKind) (s : State) : (s.recordError e).pend = s.pend := rfl
@[simp] theorem State.recordError_events (e : ErrorKind) (s : State) : (s.recordError e).events = s.events := rfl
@[simp] theorem State.recordError_reads (e : ErrorKind) (s : State) : (s.recordError e).reads = s.reads := rfl
@[simp] theorem State.recordError_draws (e : ErrorKind) (s : State) : (s.recordError e).draws = s.draws := rfl

/-! `reject` -/

@[simp] theorem State.reject_dinA (e : ErrorKind) (s : State) : (s.reject e).dinA = s.dinA := rfl
@[simp] theorem State.reject_dinB (e : ErrorKind) (s : State) : (s.reject e).dinB = s.dinB := rfl
@[simp] theorem State.reject_dinC (e : ErrorKind) (s : State) : (s.reject e).dinC = s.dinC := rfl
@[simp] theorem State.reject_doutA (e : ErrorKind) (s : State) : (s.reject e).doutA = s.doutA := rfl
@[simp] theorem State.reject_doutB (e : ErrorKind) (s : State) : (s.reject e).doutB = s.doutB := rfl
@[simp] theorem State.reject_key (e : ErrorKind) (s : State) : (s.reject e).key = s.key := rfl
@[simp] theorem State.reject_iv (e : ErrorKind) (s : State) : (s.reject e).iv = s.iv := rfl
@[simp] theorem State.reject_ctr (e : ErrorKind) (s : State) : (s.reject e).ctr = s.ctr := rfl
@[simp] theorem State.reject_arg (e : ErrorKind) (s : State) : (s.reject e).arg = s.arg := rfl
@[simp] theorem State.reject_done (e : ErrorKind) (s : State) : (s.reject e).done = true := rfl
@[simp] theorem State.reject_err (e : ErrorKind) (s : State) : (s.reject e).err = true := rfl
@[simp] theorem State.reject_kv (e : ErrorKind) (s : State) : (s.reject e).kv = s.kv := rfl
@[simp] theorem State.reject_ctrv (e : ErrorKind) (s : State) : (s.reject e).ctrv = s.ctrv := rfl
@[simp] theorem State.reject_errcode (e : ErrorKind) (s : State) : (s.reject e).errcode = if s.err then s.errcode else e.code := rfl
@[simp] theorem State.reject_rk (e : ErrorKind) (s : State) : (s.reject e).rk = s.rk := rfl
@[simp] theorem State.reject_pend (e : ErrorKind) (s : State) : (s.reject e).pend = s.pend := rfl
@[simp] theorem State.reject_events (e : ErrorKind) (s : State) : (s.reject e).events = s.events := rfl
@[simp] theorem State.reject_reads (e : ErrorKind) (s : State) : (s.reject e).reads = s.reads := rfl
@[simp] theorem State.reject_draws (e : ErrorKind) (s : State) : (s.reject e).draws = s.draws := rfl

/-! `statusWrite` -/

@[simp] theorem State.statusWrite_dinA (v : Byte) (s : State) : (s.statusWrite v).dinA = s.dinA := rfl
@[simp] theorem State.statusWrite_dinB (v : Byte) (s : State) : (s.statusWrite v).dinB = s.dinB := rfl
@[simp] theorem State.statusWrite_dinC (v : Byte) (s : State) : (s.statusWrite v).dinC = s.dinC := rfl
@[simp] theorem State.statusWrite_doutA (v : Byte) (s : State) : (s.statusWrite v).doutA = s.doutA := rfl
@[simp] theorem State.statusWrite_doutB (v : Byte) (s : State) : (s.statusWrite v).doutB = s.doutB := rfl
@[simp] theorem State.statusWrite_key (v : Byte) (s : State) : (s.statusWrite v).key = s.key := rfl
@[simp] theorem State.statusWrite_iv (v : Byte) (s : State) : (s.statusWrite v).iv = s.iv := rfl
@[simp] theorem State.statusWrite_ctr (v : Byte) (s : State) : (s.statusWrite v).ctr = s.ctr := rfl
@[simp] theorem State.statusWrite_arg (v : Byte) (s : State) : (s.statusWrite v).arg = s.arg := rfl
@[simp] theorem State.statusWrite_done (v : Byte) (s : State) : (s.statusWrite v).done = (s.done && !v.getLsbD 1) := rfl
@[simp] theorem State.statusWrite_err (v : Byte) (s : State) : (s.statusWrite v).err = (s.err && !v.getLsbD 2) := rfl
@[simp] theorem State.statusWrite_kv (v : Byte) (s : State) : (s.statusWrite v).kv = s.kv := rfl
@[simp] theorem State.statusWrite_ctrv (v : Byte) (s : State) : (s.statusWrite v).ctrv = s.ctrv := rfl
@[simp] theorem State.statusWrite_errcode (v : Byte) (s : State) : (s.statusWrite v).errcode = if v.getLsbD 2 then 0 else s.errcode := rfl
@[simp] theorem State.statusWrite_rk (v : Byte) (s : State) : (s.statusWrite v).rk = s.rk := rfl
@[simp] theorem State.statusWrite_pend (v : Byte) (s : State) : (s.statusWrite v).pend = s.pend := rfl
@[simp] theorem State.statusWrite_events (v : Byte) (s : State) : (s.statusWrite v).events = s.events := rfl
@[simp] theorem State.statusWrite_reads (v : Byte) (s : State) : (s.statusWrite v).reads = s.reads := rfl
@[simp] theorem State.statusWrite_draws (v : Byte) (s : State) : (s.statusWrite v).draws = s.draws := rfl

/-! `accept` -/

@[simp] theorem State.accept_dinA (i : Instr) (s : State) : (s.accept i).dinA = s.dinA := rfl
@[simp] theorem State.accept_dinB (i : Instr) (s : State) : (s.accept i).dinB = s.dinB := rfl
@[simp] theorem State.accept_dinC (i : Instr) (s : State) : (s.accept i).dinC = s.dinC := rfl
@[simp] theorem State.accept_doutA (i : Instr) (s : State) : (s.accept i).doutA = s.doutA := rfl
@[simp] theorem State.accept_doutB (i : Instr) (s : State) : (s.accept i).doutB = s.doutB := rfl
@[simp] theorem State.accept_key (i : Instr) (s : State) : (s.accept i).key = s.key := rfl
@[simp] theorem State.accept_iv (i : Instr) (s : State) : (s.accept i).iv = s.iv := rfl
@[simp] theorem State.accept_ctr (i : Instr) (s : State) : (s.accept i).ctr = s.ctr := rfl
@[simp] theorem State.accept_arg (i : Instr) (s : State) : (s.accept i).arg = s.arg := rfl
@[simp] theorem State.accept_done (i : Instr) (s : State) : (s.accept i).done = s.done := rfl
@[simp] theorem State.accept_err (i : Instr) (s : State) : (s.accept i).err = s.err := rfl
@[simp] theorem State.accept_kv (i : Instr) (s : State) : (s.accept i).kv = s.kv := rfl
@[simp] theorem State.accept_ctrv (i : Instr) (s : State) : (s.accept i).ctrv = s.ctrv := rfl
@[simp] theorem State.accept_errcode (i : Instr) (s : State) : (s.accept i).errcode = s.errcode := rfl
@[simp] theorem State.accept_rk (i : Instr) (s : State) : (s.accept i).rk = s.rk := rfl
@[simp] theorem State.accept_pend (i : Instr) (s : State) : (s.accept i).pend = some i := rfl
@[simp] theorem State.accept_events (i : Instr) (s : State) : (s.accept i).events = s.events := rfl
@[simp] theorem State.accept_reads (i : Instr) (s : State) : (s.accept i).reads = s.reads := rfl
@[simp] theorem State.accept_draws (i : Instr) (s : State) : (s.accept i).draws = s.draws := rfl

/-! `finish` -/

@[simp] theorem State.finish_dinA (s : State) : (s.finish).dinA = s.dinA := rfl
@[simp] theorem State.finish_dinB (s : State) : (s.finish).dinB = s.dinB := rfl
@[simp] theorem State.finish_dinC (s : State) : (s.finish).dinC = s.dinC := rfl
@[simp] theorem State.finish_doutA (s : State) : (s.finish).doutA = s.doutA := rfl
@[simp] theorem State.finish_doutB (s : State) : (s.finish).doutB = s.doutB := rfl
@[simp] theorem State.finish_key (s : State) : (s.finish).key = s.key := rfl
@[simp] theorem State.finish_iv (s : State) : (s.finish).iv = s.iv := rfl
@[simp] theorem State.finish_ctr (s : State) : (s.finish).ctr = s.ctr := rfl
@[simp] theorem State.finish_arg (s : State) : (s.finish).arg = s.arg := rfl
@[simp] theorem State.finish_done (s : State) : (s.finish).done = true := rfl
@[simp] theorem State.finish_err (s : State) : (s.finish).err = s.err := rfl
@[simp] theorem State.finish_kv (s : State) : (s.finish).kv = s.kv := rfl
@[simp] theorem State.finish_ctrv (s : State) : (s.finish).ctrv = s.ctrv := rfl
@[simp] theorem State.finish_errcode (s : State) : (s.finish).errcode = s.errcode := rfl
@[simp] theorem State.finish_rk (s : State) : (s.finish).rk = s.rk := rfl
@[simp] theorem State.finish_pend (s : State) : (s.finish).pend = none := rfl
@[simp] theorem State.finish_events (s : State) : (s.finish).events = s.events := rfl
@[simp] theorem State.finish_reads (s : State) : (s.finish).reads = s.reads := rfl
@[simp] theorem State.finish_draws (s : State) : (s.finish).draws = s.draws := rfl

/-! `writeDoutA` -/

@[simp] theorem State.writeDoutA_dinA (b : Block) (s : State) : (s.writeDoutA b).dinA = s.dinA := rfl
@[simp] theorem State.writeDoutA_dinB (b : Block) (s : State) : (s.writeDoutA b).dinB = s.dinB := rfl
@[simp] theorem State.writeDoutA_dinC (b : Block) (s : State) : (s.writeDoutA b).dinC = s.dinC := rfl
@[simp] theorem State.writeDoutA_doutA (b : Block) (s : State) : (s.writeDoutA b).doutA = b := rfl
@[simp] theorem State.writeDoutA_doutB (b : Block) (s : State) : (s.writeDoutA b).doutB = s.doutB := rfl
@[simp] theorem State.writeDoutA_key (b : Block) (s : State) : (s.writeDoutA b).key = s.key := rfl
@[simp] theorem State.writeDoutA_iv (b : Block) (s : State) : (s.writeDoutA b).iv = s.iv := rfl
@[simp] theorem State.writeDoutA_ctr (b : Block) (s : State) : (s.writeDoutA b).ctr = s.ctr := rfl
@[simp] theorem State.writeDoutA_arg (b : Block) (s : State) : (s.writeDoutA b).arg = s.arg := rfl
@[simp] theorem State.writeDoutA_done (b : Block) (s : State) : (s.writeDoutA b).done = s.done := rfl
@[simp] theorem State.writeDoutA_err (b : Block) (s : State) : (s.writeDoutA b).err = s.err := rfl
@[simp] theorem State.writeDoutA_kv (b : Block) (s : State) : (s.writeDoutA b).kv = s.kv := rfl
@[simp] theorem State.writeDoutA_ctrv (b : Block) (s : State) : (s.writeDoutA b).ctrv = s.ctrv := rfl
@[simp] theorem State.writeDoutA_errcode (b : Block) (s : State) : (s.writeDoutA b).errcode = s.errcode := rfl
@[simp] theorem State.writeDoutA_rk (b : Block) (s : State) : (s.writeDoutA b).rk = s.rk := rfl
@[simp] theorem State.writeDoutA_pend (b : Block) (s : State) : (s.writeDoutA b).pend = s.pend := rfl
@[simp] theorem State.writeDoutA_events (b : Block) (s : State) : (s.writeDoutA b).events = s.events := rfl
@[simp] theorem State.writeDoutA_reads (b : Block) (s : State) : (s.writeDoutA b).reads = s.reads := rfl
@[simp] theorem State.writeDoutA_draws (b : Block) (s : State) : (s.writeDoutA b).draws = s.draws := rfl

/-! `writeDoutAB` -/

@[simp] theorem State.writeDoutAB_dinA (p : Block × Block) (s : State) : (s.writeDoutAB p).dinA = s.dinA := rfl
@[simp] theorem State.writeDoutAB_dinB (p : Block × Block) (s : State) : (s.writeDoutAB p).dinB = s.dinB := rfl
@[simp] theorem State.writeDoutAB_dinC (p : Block × Block) (s : State) : (s.writeDoutAB p).dinC = s.dinC := rfl
@[simp] theorem State.writeDoutAB_doutA (p : Block × Block) (s : State) : (s.writeDoutAB p).doutA = p.1 := rfl
@[simp] theorem State.writeDoutAB_doutB (p : Block × Block) (s : State) : (s.writeDoutAB p).doutB = p.2 := rfl
@[simp] theorem State.writeDoutAB_key (p : Block × Block) (s : State) : (s.writeDoutAB p).key = s.key := rfl
@[simp] theorem State.writeDoutAB_iv (p : Block × Block) (s : State) : (s.writeDoutAB p).iv = s.iv := rfl
@[simp] theorem State.writeDoutAB_ctr (p : Block × Block) (s : State) : (s.writeDoutAB p).ctr = s.ctr := rfl
@[simp] theorem State.writeDoutAB_arg (p : Block × Block) (s : State) : (s.writeDoutAB p).arg = s.arg := rfl
@[simp] theorem State.writeDoutAB_done (p : Block × Block) (s : State) : (s.writeDoutAB p).done = s.done := rfl
@[simp] theorem State.writeDoutAB_err (p : Block × Block) (s : State) : (s.writeDoutAB p).err = s.err := rfl
@[simp] theorem State.writeDoutAB_kv (p : Block × Block) (s : State) : (s.writeDoutAB p).kv = s.kv := rfl
@[simp] theorem State.writeDoutAB_ctrv (p : Block × Block) (s : State) : (s.writeDoutAB p).ctrv = s.ctrv := rfl
@[simp] theorem State.writeDoutAB_errcode (p : Block × Block) (s : State) : (s.writeDoutAB p).errcode = s.errcode := rfl
@[simp] theorem State.writeDoutAB_rk (p : Block × Block) (s : State) : (s.writeDoutAB p).rk = s.rk := rfl
@[simp] theorem State.writeDoutAB_pend (p : Block × Block) (s : State) : (s.writeDoutAB p).pend = s.pend := rfl
@[simp] theorem State.writeDoutAB_events (p : Block × Block) (s : State) : (s.writeDoutAB p).events = s.events := rfl
@[simp] theorem State.writeDoutAB_reads (p : Block × Block) (s : State) : (s.writeDoutAB p).reads = s.reads := rfl
@[simp] theorem State.writeDoutAB_draws (p : Block × Block) (s : State) : (s.writeDoutAB p).draws = s.draws := rfl

/-! `writeSchedule` -/

@[simp] theorem State.writeSchedule_dinA (ks : RoundKeys) (s : State) : (s.writeSchedule ks).dinA = s.dinA := rfl
@[simp] theorem State.writeSchedule_dinB (ks : RoundKeys) (s : State) : (s.writeSchedule ks).dinB = s.dinB := rfl
@[simp] theorem State.writeSchedule_dinC (ks : RoundKeys) (s : State) : (s.writeSchedule ks).dinC = s.dinC := rfl
@[simp] theorem State.writeSchedule_doutA (ks : RoundKeys) (s : State) : (s.writeSchedule ks).doutA = s.doutA := rfl
@[simp] theorem State.writeSchedule_doutB (ks : RoundKeys) (s : State) : (s.writeSchedule ks).doutB = s.doutB := rfl
@[simp] theorem State.writeSchedule_key (ks : RoundKeys) (s : State) : (s.writeSchedule ks).key = s.key := rfl
@[simp] theorem State.writeSchedule_iv (ks : RoundKeys) (s : State) : (s.writeSchedule ks).iv = s.iv := rfl
@[simp] theorem State.writeSchedule_ctr (ks : RoundKeys) (s : State) : (s.writeSchedule ks).ctr = s.ctr := rfl
@[simp] theorem State.writeSchedule_arg (ks : RoundKeys) (s : State) : (s.writeSchedule ks).arg = s.arg := rfl
@[simp] theorem State.writeSchedule_done (ks : RoundKeys) (s : State) : (s.writeSchedule ks).done = s.done := rfl
@[simp] theorem State.writeSchedule_err (ks : RoundKeys) (s : State) : (s.writeSchedule ks).err = s.err := rfl
@[simp] theorem State.writeSchedule_kv (ks : RoundKeys) (s : State) : (s.writeSchedule ks).kv = true := rfl
@[simp] theorem State.writeSchedule_ctrv (ks : RoundKeys) (s : State) : (s.writeSchedule ks).ctrv = false := rfl
@[simp] theorem State.writeSchedule_errcode (ks : RoundKeys) (s : State) : (s.writeSchedule ks).errcode = s.errcode := rfl
@[simp] theorem State.writeSchedule_rk (ks : RoundKeys) (s : State) : (s.writeSchedule ks).rk = ks := rfl
@[simp] theorem State.writeSchedule_pend (ks : RoundKeys) (s : State) : (s.writeSchedule ks).pend = s.pend := rfl
@[simp] theorem State.writeSchedule_events (ks : RoundKeys) (s : State) : (s.writeSchedule ks).events = s.events := rfl
@[simp] theorem State.writeSchedule_reads (ks : RoundKeys) (s : State) : (s.writeSchedule ks).reads = s.reads := rfl
@[simp] theorem State.writeSchedule_draws (ks : RoundKeys) (s : State) : (s.writeSchedule ks).draws = s.draws := rfl

/-! `openStream` -/

@[simp] theorem State.openStream_dinA (c : Block) (s : State) : (s.openStream c).dinA = s.dinA := rfl
@[simp] theorem State.openStream_dinB (c : Block) (s : State) : (s.openStream c).dinB = s.dinB := rfl
@[simp] theorem State.openStream_dinC (c : Block) (s : State) : (s.openStream c).dinC = s.dinC := rfl
@[simp] theorem State.openStream_doutA (c : Block) (s : State) : (s.openStream c).doutA = s.doutA := rfl
@[simp] theorem State.openStream_doutB (c : Block) (s : State) : (s.openStream c).doutB = s.doutB := rfl
@[simp] theorem State.openStream_key (c : Block) (s : State) : (s.openStream c).key = s.key := rfl
@[simp] theorem State.openStream_iv (c : Block) (s : State) : (s.openStream c).iv = s.iv := rfl
@[simp] theorem State.openStream_ctr (c : Block) (s : State) : (s.openStream c).ctr = c := rfl
@[simp] theorem State.openStream_arg (c : Block) (s : State) : (s.openStream c).arg = s.arg := rfl
@[simp] theorem State.openStream_done (c : Block) (s : State) : (s.openStream c).done = s.done := rfl
@[simp] theorem State.openStream_err (c : Block) (s : State) : (s.openStream c).err = s.err := rfl
@[simp] theorem State.openStream_kv (c : Block) (s : State) : (s.openStream c).kv = s.kv := rfl
@[simp] theorem State.openStream_ctrv (c : Block) (s : State) : (s.openStream c).ctrv = true := rfl
@[simp] theorem State.openStream_errcode (c : Block) (s : State) : (s.openStream c).errcode = s.errcode := rfl
@[simp] theorem State.openStream_rk (c : Block) (s : State) : (s.openStream c).rk = s.rk := rfl
@[simp] theorem State.openStream_pend (c : Block) (s : State) : (s.openStream c).pend = s.pend := rfl
@[simp] theorem State.openStream_events (c : Block) (s : State) : (s.openStream c).events = s.events := rfl
@[simp] theorem State.openStream_reads (c : Block) (s : State) : (s.openStream c).reads = s.reads := rfl
@[simp] theorem State.openStream_draws (c : Block) (s : State) : (s.openStream c).draws = s.draws := rfl

/-! `writeChunk` -/

@[simp] theorem State.writeChunk_dinA (out c : Block) (last : Bool) (s : State) : (s.writeChunk out c last).dinA = s.dinA := rfl
@[simp] theorem State.writeChunk_dinB (out c : Block) (last : Bool) (s : State) : (s.writeChunk out c last).dinB = s.dinB := rfl
@[simp] theorem State.writeChunk_dinC (out c : Block) (last : Bool) (s : State) : (s.writeChunk out c last).dinC = s.dinC := rfl
@[simp] theorem State.writeChunk_doutA (out c : Block) (last : Bool) (s : State) : (s.writeChunk out c last).doutA = out := rfl
@[simp] theorem State.writeChunk_doutB (out c : Block) (last : Bool) (s : State) : (s.writeChunk out c last).doutB = s.doutB := rfl
@[simp] theorem State.writeChunk_key (out c : Block) (last : Bool) (s : State) : (s.writeChunk out c last).key = s.key := rfl
@[simp] theorem State.writeChunk_iv (out c : Block) (last : Bool) (s : State) : (s.writeChunk out c last).iv = s.iv := rfl
@[simp] theorem State.writeChunk_ctr (out c : Block) (last : Bool) (s : State) : (s.writeChunk out c last).ctr = c := rfl
@[simp] theorem State.writeChunk_arg (out c : Block) (last : Bool) (s : State) : (s.writeChunk out c last).arg = s.arg := rfl
@[simp] theorem State.writeChunk_done (out c : Block) (last : Bool) (s : State) : (s.writeChunk out c last).done = s.done := rfl
@[simp] theorem State.writeChunk_err (out c : Block) (last : Bool) (s : State) : (s.writeChunk out c last).err = s.err := rfl
@[simp] theorem State.writeChunk_kv (out c : Block) (last : Bool) (s : State) : (s.writeChunk out c last).kv = s.kv := rfl
@[simp] theorem State.writeChunk_ctrv (out c : Block) (last : Bool) (s : State) : (s.writeChunk out c last).ctrv = if last then false else s.ctrv := rfl
@[simp] theorem State.writeChunk_errcode (out c : Block) (last : Bool) (s : State) : (s.writeChunk out c last).errcode = s.errcode := rfl
@[simp] theorem State.writeChunk_rk (out c : Block) (last : Bool) (s : State) : (s.writeChunk out c last).rk = s.rk := rfl
@[simp] theorem State.writeChunk_pend (out c : Block) (last : Bool) (s : State) : (s.writeChunk out c last).pend = s.pend := rfl
@[simp] theorem State.writeChunk_events (out c : Block) (last : Bool) (s : State) : (s.writeChunk out c last).events = s.events := rfl
@[simp] theorem State.writeChunk_reads (out c : Block) (last : Bool) (s : State) : (s.writeChunk out c last).reads = s.reads := rfl
@[simp] theorem State.writeChunk_draws (out c : Block) (last : Bool) (s : State) : (s.writeChunk out c last).draws = s.draws := rfl

/-! `returnByte` -/

@[simp] theorem State.returnByte_dinA (b : Byte) (s : State) : (s.returnByte b).dinA = s.dinA := rfl
@[simp] theorem State.returnByte_dinB (b : Byte) (s : State) : (s.returnByte b).dinB = s.dinB := rfl
@[simp] theorem State.returnByte_dinC (b : Byte) (s : State) : (s.returnByte b).dinC = s.dinC := rfl
@[simp] theorem State.returnByte_doutA (b : Byte) (s : State) : (s.returnByte b).doutA = s.doutA := rfl
@[simp] theorem State.returnByte_doutB (b : Byte) (s : State) : (s.returnByte b).doutB = s.doutB := rfl
@[simp] theorem State.returnByte_key (b : Byte) (s : State) : (s.returnByte b).key = s.key := rfl
@[simp] theorem State.returnByte_iv (b : Byte) (s : State) : (s.returnByte b).iv = s.iv := rfl
@[simp] theorem State.returnByte_ctr (b : Byte) (s : State) : (s.returnByte b).ctr = s.ctr := rfl
@[simp] theorem State.returnByte_arg (b : Byte) (s : State) : (s.returnByte b).arg = s.arg := rfl
@[simp] theorem State.returnByte_done (b : Byte) (s : State) : (s.returnByte b).done = s.done := rfl
@[simp] theorem State.returnByte_err (b : Byte) (s : State) : (s.returnByte b).err = s.err := rfl
@[simp] theorem State.returnByte_kv (b : Byte) (s : State) : (s.returnByte b).kv = s.kv := rfl
@[simp] theorem State.returnByte_ctrv (b : Byte) (s : State) : (s.returnByte b).ctrv = s.ctrv := rfl
@[simp] theorem State.returnByte_errcode (b : Byte) (s : State) : (s.returnByte b).errcode = s.errcode := rfl
@[simp] theorem State.returnByte_rk (b : Byte) (s : State) : (s.returnByte b).rk = s.rk := rfl
@[simp] theorem State.returnByte_pend (b : Byte) (s : State) : (s.returnByte b).pend = s.pend := rfl
@[simp] theorem State.returnByte_events (b : Byte) (s : State) : (s.returnByte b).events = s.events := rfl
@[simp] theorem State.returnByte_reads (b : Byte) (s : State) : (s.returnByte b).reads = s.reads ++ [b] := rfl
@[simp] theorem State.returnByte_draws (b : Byte) (s : State) : (s.returnByte b).draws = s.draws := rfl

/-! `returnFree` -/

@[simp] theorem State.returnFree_dinA (s : State) : (s.returnFree).dinA = s.dinA := rfl
@[simp] theorem State.returnFree_dinB (s : State) : (s.returnFree).dinB = s.dinB := rfl
@[simp] theorem State.returnFree_dinC (s : State) : (s.returnFree).dinC = s.dinC := rfl
@[simp] theorem State.returnFree_doutA (s : State) : (s.returnFree).doutA = s.doutA := rfl
@[simp] theorem State.returnFree_doutB (s : State) : (s.returnFree).doutB = s.doutB := rfl
@[simp] theorem State.returnFree_key (s : State) : (s.returnFree).key = s.key := rfl
@[simp] theorem State.returnFree_iv (s : State) : (s.returnFree).iv = s.iv := rfl
@[simp] theorem State.returnFree_ctr (s : State) : (s.returnFree).ctr = s.ctr := rfl
@[simp] theorem State.returnFree_arg (s : State) : (s.returnFree).arg = s.arg := rfl
@[simp] theorem State.returnFree_done (s : State) : (s.returnFree).done = s.done := rfl
@[simp] theorem State.returnFree_err (s : State) : (s.returnFree).err = s.err := rfl
@[simp] theorem State.returnFree_kv (s : State) : (s.returnFree).kv = s.kv := rfl
@[simp] theorem State.returnFree_ctrv (s : State) : (s.returnFree).ctrv = s.ctrv := rfl
@[simp] theorem State.returnFree_errcode (s : State) : (s.returnFree).errcode = s.errcode := rfl
@[simp] theorem State.returnFree_rk (s : State) : (s.returnFree).rk = s.rk := rfl
@[simp] theorem State.returnFree_pend (s : State) : (s.returnFree).pend = s.pend := rfl
@[simp] theorem State.returnFree_events (s : State) : (s.returnFree).events = s.events := rfl
@[simp] theorem State.returnFree_reads (s : State) : (s.returnFree).reads = s.reads ++ [Config.anyByte s.draws] := rfl
@[simp] theorem State.returnFree_draws (s : State) : (s.returnFree).draws = s.draws + 1 := rfl

/-! `withEvents` -/

@[simp] theorem State.withEvents_dinA (rest : List Event) (s : State) : (s.withEvents rest).dinA = s.dinA := rfl
@[simp] theorem State.withEvents_dinB (rest : List Event) (s : State) : (s.withEvents rest).dinB = s.dinB := rfl
@[simp] theorem State.withEvents_dinC (rest : List Event) (s : State) : (s.withEvents rest).dinC = s.dinC := rfl
@[simp] theorem State.withEvents_doutA (rest : List Event) (s : State) : (s.withEvents rest).doutA = s.doutA := rfl
@[simp] theorem State.withEvents_doutB (rest : List Event) (s : State) : (s.withEvents rest).doutB = s.doutB := rfl
@[simp] theorem State.withEvents_key (rest : List Event) (s : State) : (s.withEvents rest).key = s.key := rfl
@[simp] theorem State.withEvents_iv (rest : List Event) (s : State) : (s.withEvents rest).iv = s.iv := rfl
@[simp] theorem State.withEvents_ctr (rest : List Event) (s : State) : (s.withEvents rest).ctr = s.ctr := rfl
@[simp] theorem State.withEvents_arg (rest : List Event) (s : State) : (s.withEvents rest).arg = s.arg := rfl
@[simp] theorem State.withEvents_done (rest : List Event) (s : State) : (s.withEvents rest).done = s.done := rfl
@[simp] theorem State.withEvents_err (rest : List Event) (s : State) : (s.withEvents rest).err = s.err := rfl
@[simp] theorem State.withEvents_kv (rest : List Event) (s : State) : (s.withEvents rest).kv = s.kv := rfl
@[simp] theorem State.withEvents_ctrv (rest : List Event) (s : State) : (s.withEvents rest).ctrv = s.ctrv := rfl
@[simp] theorem State.withEvents_errcode (rest : List Event) (s : State) : (s.withEvents rest).errcode = s.errcode := rfl
@[simp] theorem State.withEvents_rk (rest : List Event) (s : State) : (s.withEvents rest).rk = s.rk := rfl
@[simp] theorem State.withEvents_pend (rest : List Event) (s : State) : (s.withEvents rest).pend = s.pend := rfl
@[simp] theorem State.withEvents_events (rest : List Event) (s : State) : (s.withEvents rest).events = rest := rfl
@[simp] theorem State.withEvents_reads (rest : List Event) (s : State) : (s.withEvents rest).reads = s.reads := rfl
@[simp] theorem State.withEvents_draws (rest : List Event) (s : State) : (s.withEvents rest).draws = s.draws := rfl

/-! `clearDone` -/

@[simp] theorem State.clearDone_dinA (s : State) : (s.clearDone).dinA = s.dinA := rfl
@[simp] theorem State.clearDone_dinB (s : State) : (s.clearDone).dinB = s.dinB := rfl
@[simp] theorem State.clearDone_dinC (s : State) : (s.clearDone).dinC = s.dinC := rfl
@[simp] theorem State.clearDone_doutA (s : State) : (s.clearDone).doutA = s.doutA := rfl
@[simp] theorem State.clearDone_doutB (s : State) : (s.clearDone).doutB = s.doutB := rfl
@[simp] theorem State.clearDone_key (s : State) : (s.clearDone).key = s.key := rfl
@[simp] theorem State.clearDone_iv (s : State) : (s.clearDone).iv = s.iv := rfl
@[simp] theorem State.clearDone_ctr (s : State) : (s.clearDone).ctr = s.ctr := rfl
@[simp] theorem State.clearDone_arg (s : State) : (s.clearDone).arg = s.arg := rfl
@[simp] theorem State.clearDone_done (s : State) : (s.clearDone).done = false := rfl
@[simp] theorem State.clearDone_err (s : State) : (s.clearDone).err = s.err := rfl
@[simp] theorem State.clearDone_kv (s : State) : (s.clearDone).kv = s.kv := rfl
@[simp] theorem State.clearDone_ctrv (s : State) : (s.clearDone).ctrv = s.ctrv := rfl
@[simp] theorem State.clearDone_errcode (s : State) : (s.clearDone).errcode = s.errcode := rfl
@[simp] theorem State.clearDone_rk (s : State) : (s.clearDone).rk = s.rk := rfl
@[simp] theorem State.clearDone_pend (s : State) : (s.clearDone).pend = s.pend := rfl
@[simp] theorem State.clearDone_events (s : State) : (s.clearDone).events = s.events := rfl
@[simp] theorem State.clearDone_reads (s : State) : (s.clearDone).reads = s.reads := rfl
@[simp] theorem State.clearDone_draws (s : State) : (s.clearDone).draws = s.draws := rfl

/-! `assertReset` -/

@[simp] theorem State.assertReset_dinA (s : State) : s.assertReset.dinA = State.reset.dinA := rfl
@[simp] theorem State.assertReset_dinB (s : State) : s.assertReset.dinB = State.reset.dinB := rfl
@[simp] theorem State.assertReset_dinC (s : State) : s.assertReset.dinC = State.reset.dinC := rfl
@[simp] theorem State.assertReset_doutA (s : State) : s.assertReset.doutA = State.reset.doutA := rfl
@[simp] theorem State.assertReset_doutB (s : State) : s.assertReset.doutB = State.reset.doutB := rfl
@[simp] theorem State.assertReset_key (s : State) : s.assertReset.key = State.reset.key := rfl
@[simp] theorem State.assertReset_iv (s : State) : s.assertReset.iv = State.reset.iv := rfl
@[simp] theorem State.assertReset_ctr (s : State) : s.assertReset.ctr = State.reset.ctr := rfl
@[simp] theorem State.assertReset_arg (s : State) : s.assertReset.arg = State.reset.arg := rfl
@[simp] theorem State.assertReset_done (s : State) : s.assertReset.done = State.reset.done := rfl
@[simp] theorem State.assertReset_err (s : State) : s.assertReset.err = State.reset.err := rfl
@[simp] theorem State.assertReset_kv (s : State) : s.assertReset.kv = State.reset.kv := rfl
@[simp] theorem State.assertReset_ctrv (s : State) : s.assertReset.ctrv = State.reset.ctrv := rfl
@[simp] theorem State.assertReset_errcode (s : State) : s.assertReset.errcode = State.reset.errcode := rfl
@[simp] theorem State.assertReset_rk (s : State) : s.assertReset.rk = State.reset.rk := rfl
@[simp] theorem State.assertReset_pend (s : State) : s.assertReset.pend = State.reset.pend := rfl
@[simp] theorem State.assertReset_events (s : State) : s.assertReset.events = s.events := rfl
@[simp] theorem State.assertReset_reads (s : State) : s.assertReset.reads = s.reads := rfl
@[simp] theorem State.assertReset_draws (s : State) : s.assertReset.draws = s.draws := rfl

/-! BUSY is PEND (R43): an update that keeps `pend` keeps it. -/

@[simp] theorem State.busy_of_none {s : State} (h : s.pend = none) : s.busy = false := by simp [State.busy, h]

@[simp] theorem State.busy_of_some {s : State} {i : Instr} (h : s.pend = some i) : s.busy = true := by
  simp [State.busy, h]

end Sys2Proof.Machine
end

