-- ==== Sys2Proof/Laws/Ops.lean ====
section
/-! SUPPORT. What each shared operation can do, said once: the two stages of a command, the checks, the guarded store
and the read of the window. -/

namespace Sys2Proof.Machine

/-! ## Checks -/

@[simp] theorem firstFailure_nil : firstFailure [] = none := rfl

theorem firstFailure_cons (c : Check) (cs : List Check) :
    firstFailure (c :: cs) = if c.holds then firstFailure cs else some c.error := rfl

/-- The checks all pass exactly when no failure is found. -/
theorem firstFailure_eq_none_iff (cs : List Check) : firstFailure cs = none ↔ ∀ c ∈ cs, c.holds = true := by
  induction cs with
  | nil => simp
  | cons c cs ih => by_cases h : c.holds <;> simp [firstFailure_cons, h, ih]

/-- RCON's check holds for the indices 1 to 32 (R225). -/
theorem rconIndexLegal_iff (arg : Byte) : rconIndexLegal arg = true ↔ 1 ≤ arg.toNat ∧ arg.toNat ≤ 32 := by
  unfold rconIndexLegal argValue
  rw [Bool.and_eq_true, decide_eq_true_eq, decide_eq_true_eq]

/-- CTR_CHUNK's check holds for the lengths 1 to 16 (R266). -/
theorem chunkLengthLegal_iff (arg : Byte) : chunkLengthLegal arg = true ↔ 1 ≤ arg.toNat ∧ arg.toNat ≤ 16 := by
  unfold chunkLengthLegal argValue
  rw [Bool.and_eq_true, decide_eq_true_eq, decide_eq_true_eq]

/-! ## The two stages of a command -/

theorem runCommand_rejects {i : Instr} {cs : List Check} {effect s : State} {e : ErrorKind} (hp : s.pend = none)
    (he : firstFailure cs = some e) : runCommand i cs effect s = .next (s.reject e) := by
  simp [runCommand, hp, he]

theorem runCommand_accepts {i : Instr} {cs : List Check} {effect s : State} (hp : s.pend = none)
    (he : firstFailure cs = none) : runCommand i cs effect s = .next (s.accept i) := by
  simp [runCommand, hp, he]

theorem runCommand_completes {i j : Instr} {cs : List Check} {effect s : State} (hp : s.pend = some j) :
    runCommand i cs effect s = .next effect.finish := by
  simp [runCommand, hp]

/-- Everything a command can do: it is rejected, accepted or completed. -/
theorem runCommand_cases {i : Instr} {cs : List Check} {effect s t : State}
    (h : runCommand i cs effect s = .next t) :
    (∃ e, s.pend = none ∧ firstFailure cs = some e ∧ t = s.reject e) ∨
    (s.pend = none ∧ firstFailure cs = none ∧ t = s.accept i) ∨
    (∃ j, s.pend = some j ∧ t = effect.finish) := by
  cases hp : s.pend with
  | some j => rw [runCommand_completes hp] at h; cases h; exact .inr (.inr ⟨j, rfl, rfl⟩)
  | none =>
    cases he : firstFailure cs with
    | some e => rw [runCommand_rejects hp he] at h; cases h; exact .inl ⟨e, rfl, rfl, rfl⟩
    | none => rw [runCommand_accepts hp he] at h; cases h; exact .inr (.inl ⟨rfl, rfl, rfl⟩)

/-! ## Stores and reads -/

theorem guardedStore_busy {stored s : State} (h : s.busy = true) :
    State.guardedStore stored s = s.recordError .busyErr := by
  simp [State.guardedStore, h]

theorem guardedStore_idle {stored s : State} (h : s.busy = false) : State.guardedStore stored s = stored := by
  simp [State.guardedStore, h]

/-- A read changes only what it returns and, for a free byte, the count of draws. -/
theorem busRead_eq (a : Byte) (s : State) :
    ∃ b n, s.busRead a = { s with reads := s.reads ++ [b], draws := n } := by
  unfold State.busRead
  split
  · exact ⟨_, _, rfl⟩
  · exact ⟨_, s.draws, rfl⟩

/-- A read gives no free byte while no command is in flight. -/
theorem busRead_idle {a : Byte} {s : State} (h : s.busy = false) :
    s.busRead a = s.returnByte (readReg (locate a) s) := by
  unfold State.busRead readsFree
  cases locate a <;> simp [h]

/-! ## The address map, range by range (R71) -/

theorem locate_dinA : ∀ (a : Byte) (k : Fin 16), a.toNat = 0 + k.val → locate a = .dinA k := by
  decide +kernel

theorem locate_dinB : ∀ (a : Byte) (k : Fin 16), a.toNat = 0x10 + k.val → locate a = .dinB k := by
  decide +kernel

theorem locate_dinC : ∀ (a : Byte) (k : Fin 16), a.toNat = 0x20 + k.val → locate a = .dinC k := by
  decide +kernel

theorem locate_doutA : ∀ (a : Byte) (k : Fin 16), a.toNat = 0x30 + k.val → locate a = .doutA k := by
  decide +kernel

theorem locate_doutB : ∀ (a : Byte) (k : Fin 16), a.toNat = 0x40 + k.val → locate a = .doutB k := by
  decide +kernel

theorem locate_key : ∀ (a : Byte) (k : Fin 32), a.toNat = 0x50 + k.val → locate a = .key k := by
  decide +kernel

theorem locate_iv : ∀ (a : Byte) (k : Fin 8), a.toNat = 0x70 + k.val → locate a = .iv k := by
  decide +kernel

theorem locate_ctr : ∀ (a : Byte) (k : Fin 16), a.toNat = 0x80 + k.val → locate a = .ctr k := by
  decide +kernel

theorem locate_cmd : locate 0xF0 = .cmd := by decide

theorem locate_arg : locate 0xF1 = .arg := by decide

theorem locate_status : locate 0xF2 = .status := by decide

theorem locate_errcode : locate 0xF3 = .errcode := by decide

theorem locate_reserved : ∀ a : Byte, (0x78 ≤ a.toNat ∧ a.toNat ≤ 0x7F) ∨ (0x90 ≤ a.toNat ∧ a.toNat ≤ 0xEF) ∨
    0xF4 ≤ a.toNat → locate a = .reserved := by
  decide +kernel

/-- Everything an address can name. -/
theorem locate_cases : ∀ a : Byte, (∃ k, a.toNat = 0 + k.val ∧ locate a = .dinA k) ∨
    (∃ k, a.toNat = 0x10 + k.val ∧ locate a = .dinB k) ∨ (∃ k, a.toNat = 0x20 + k.val ∧ locate a = .dinC k) ∨
    (∃ k, a.toNat = 0x30 + k.val ∧ locate a = .doutA k) ∨ (∃ k, a.toNat = 0x40 + k.val ∧ locate a = .doutB k) ∨
    (∃ k, a.toNat = 0x50 + k.val ∧ locate a = .key k) ∨ (∃ k, a.toNat = 0x70 + k.val ∧ locate a = .iv k) ∨
    (∃ k, a.toNat = 0x80 + k.val ∧ locate a = .ctr k) ∨ (a = 0xF0 ∧ locate a = .cmd) ∨ (a = 0xF1 ∧ locate a = .arg) ∨
    (a = 0xF2 ∧ locate a = .status) ∨ (a = 0xF3 ∧ locate a = .errcode) ∨ locate a = .reserved := by
  decide +kernel

/-- The codes of the errors are 1 to 6 (R281). -/
theorem code_range (e : ErrorKind) : 1 ≤ e.code.toNat ∧ e.code.toNat ≤ 6 := by cases e <;> decide

end Sys2Proof.Machine
end

