-- ==== Sys2Proof/Laws/Exec.lean ====
section
/-! SUPPORT. exec said once: each command is its checks and its effect, run by `runCommand`. -/

namespace Sys2Proof.Machine

/-- The checks of each command's rule, in order (R283). -/
def checksOf (i : Instr) (s : State) : List Check :=
  match i with
  | .nop _ => []
  | .gfAdd _ => []
  | .gfMul _ => []
  | .blkXor _ => []
  | .sub _ => []
  | .subInv _ => []
  | .lcomb _ => []
  | .rstep _ => []
  | .rstepInv _ => []
  | .lin _ => []
  | .linInv _ => []
  | .rcon a => [indexCheck a]
  | .feistel _ => []
  | .expandKey _ => []
  | .encBlock _ => [keyCheck s]
  | .decBlock _ => [keyCheck s]
  | .ctrInit _ => []
  | .ctrChunk a => [keyCheck s, counterCheck s, lengthCheck a]

/-- The effect of each command's rule, before the completion ends. -/
def effectOf (i : Instr) (s : State) : State :=
  match i with
  | .nop _ => s
  | .gfAdd _ => s.writeDoutA (byteResult (gfAdd s.dinA[0] s.dinB[0]))
  | .gfMul _ => s.writeDoutA (byteResult (gfMul s.dinA[0] s.dinB[0]))
  | .blkXor _ => s.writeDoutA (xblk s.dinA s.dinB)
  | .sub _ => s.writeDoutA (sblk s.dinA)
  | .subInv _ => s.writeDoutA (sinvblk s.dinA)
  | .lcomb _ => s.writeDoutA (byteResult (lcomb s.dinA))
  | .rstep _ => s.writeDoutA (rstep s.dinA)
  | .rstepInv _ => s.writeDoutA (rstepInv s.dinA)
  | .lin _ => s.writeDoutA (lmap s.dinA)
  | .linInv _ => s.writeDoutA (linv s.dinA)
  | .rcon a => s.writeDoutA (roundConstant (argValue a))
  | .feistel _ => s.writeDoutAB (feistel s.dinC s.dinA s.dinB)
  | .expandKey _ => s.writeSchedule (expand s.key)
  | .encBlock _ => s.writeDoutA (encrypt s.rk s.dinA)
  | .decBlock _ => s.writeDoutA (decrypt s.rk s.dinA)
  | .ctrInit _ => s.openStream (ctr0 s.iv)
  | .ctrChunk a =>
    s.writeChunk (chunkOutput (argValue a) s.dinA (encrypt s.rk s.ctr)) (ctrInc s.ctr) (argValue a < 16)

/-- Each meaning is its checks and its effect. -/
theorem exec_eq_runCommand (i : Instr) (s : State) : exec i s = runCommand i (checksOf i s) (effectOf i s) s := by
  cases i <;> rfl

/-- A command in flight completes: its effect, then PEND <- none and DONE <- 1 (R134). -/
theorem exec_completes {i j : Instr} {s : State} (hp : s.pend = some j) :
    exec i s = .next (effectOf i s).finish := by
  rw [exec_eq_runCommand, runCommand_completes hp]

/-- A command being issued is rejected with its first failing check, or accepted (R130). -/
theorem exec_issues (i : Instr) {s : State} (hp : s.pend = none) :
    exec i s = .next (match firstFailure (checksOf i s) with
      | some e => s.reject e
      | none => s.accept i) := by
  rw [exec_eq_runCommand]
  cases he : firstFailure (checksOf i s) with
  | some e => rw [runCommand_rejects hp he]
  | none => rw [runCommand_accepts hp he]

/-- Everything exec can do. -/
theorem exec_cases {i : Instr} {s t : State} (h : exec i s = .next t) :
    (∃ e, s.pend = none ∧ firstFailure (checksOf i s) = some e ∧ t = s.reject e) ∨
    (s.pend = none ∧ firstFailure (checksOf i s) = none ∧ t = s.accept i) ∨
    (∃ j, s.pend = some j ∧ t = (effectOf i s).finish) :=
  runCommand_cases (exec_eq_runCommand i s ▸ h)

/-- No command's effect reaches a host-written register, an error register, or a field of the model's own. -/
theorem effectOf_frame (i : Instr) (s : State) :
    (effectOf i s).dinA = s.dinA ∧ (effectOf i s).dinB = s.dinB ∧ (effectOf i s).dinC = s.dinC ∧
    (effectOf i s).key = s.key ∧ (effectOf i s).iv = s.iv ∧ (effectOf i s).arg = s.arg ∧
    (effectOf i s).err = s.err ∧ (effectOf i s).errcode = s.errcode ∧ (effectOf i s).events = s.events ∧
    (effectOf i s).reads = s.reads ∧ (effectOf i s).draws = s.draws := by
  cases i <;> simp [effectOf]

end Sys2Proof.Machine
end

