-- ==== Sys2Proof/Laws/Step.lean ====
section
/-! SUPPORT. The sequencer and the step, said once. -/

namespace Sys2Proof.Machine

/-- Every command answers a next state. -/
theorem exec_answers (i : Instr) (s : State) : ∃ t, exec i s = .next t := by
  cases hp : s.pend with
  | none => exact ⟨_, exec_issues i hp⟩
  | some j => exact ⟨_, exec_completes hp⟩

/-- An issue while BUSY only records BUSY_ERR (R130). -/
theorem issue_busy {op : Byte} {s : State} (h : s.busy = true) : issue op s = .next (s.recordError .busyErr) := by
  simp [issue, h]

/-- An issue of an illegal OP is rejected (R105, R130). -/
theorem issue_illegal {op : Byte} {s : State} (h : s.pend = none) (hd : decodeOp op s.arg = none) :
    issue op s = .next (s.clearDone.reject .illegalCmd) := by
  simp [issue, h, hd]

/-- An issue of a legal OP runs the command it decodes to, with DONE cleared (R130). -/
theorem issue_legal {op : Byte} {i : Instr} {s : State} (h : s.pend = none) (hd : decodeOp op s.arg = some i) :
    issue op s = exec i s.clearDone := by
  simp [issue, h, hd]

/-- Everything an issue can do (R130): BUSY_ERR is recorded, the OP is rejected, the command is rejected with its first
failing check, or it is accepted. -/
theorem issue_cases {op : Byte} {s t : State} (h : issue op s = .next t) :
    (∃ j, s.pend = some j ∧ t = s.recordError .busyErr) ∨
    (s.pend = none ∧ decodeOp op s.arg = none ∧ t = s.clearDone.reject .illegalCmd) ∨
    (∃ i e, s.pend = none ∧ decodeOp op s.arg = some i ∧ firstFailure (checksOf i s) = some e ∧
      t = s.clearDone.reject e) ∨
    (∃ i, s.pend = none ∧ decodeOp op s.arg = some i ∧ firstFailure (checksOf i s) = none ∧
      t = s.clearDone.accept i) := by
  cases hp : s.pend with
  | some j => rw [issue_busy (State.busy_of_some hp)] at h; cases h; exact .inl ⟨j, rfl, rfl⟩
  | none =>
    cases hd : decodeOp op s.arg with
    | none => rw [issue_illegal hp hd] at h; cases h; exact .inr (.inl ⟨rfl, rfl, rfl⟩)
    | some i =>
      have hc : checksOf i s.clearDone = checksOf i s := by cases i <;> rfl
      rw [issue_legal hp hd, exec_issues i (show s.clearDone.pend = none from hp), hc] at h
      cases hf : firstFailure (checksOf i s) with
      | some e => rw [hf] at h; cases h; exact .inr (.inr (.inl ⟨i, e, rfl, rfl, hf, rfl⟩))
      | none => rw [hf] at h; cases h; exact .inr (.inr (.inr ⟨i, rfl, rfl, hf, rfl⟩))

/-- A host write other than to CMD: a store, a dropped store, a STATUS write, or nothing (R75). -/
theorem busWrite_cases {a v : Byte} {s t : State} (h : busWrite a v s = .next t) :
    locate a = .cmd ∨
    (s.busy = true ∧ t = s.recordError .busyErr) ∨
    (s.busy = false ∧ ∃ da db dc ky iv ar,
      t = { s with dinA := da, dinB := db, dinC := dc, key := ky, iv := iv, arg := ar }) ∨
    (locate a = .status ∧ t = s.statusWrite v) ∨
    t = s := by
  unfold busWrite at h
  cases hl : locate a <;> simp only [hl] at h <;> try (cases hb : s.busy)
  all_goals first
    | exact .inl rfl
    | (rw [guardedStore_busy hb] at h; cases h; exact .inr (.inl ⟨rfl, rfl⟩))
    | (rw [guardedStore_idle hb] at h; cases h; exact .inr (.inr (.inl ⟨rfl, _, _, _, _, _, _, rfl⟩)))
    | (cases h; exact .inr (.inr (.inr (.inl ⟨rfl, rfl⟩))))
    | (cases h; exact .inr (.inr (.inr (.inr rfl))))

/-- The engine's turn completes the command in flight (R134). -/
theorem engineTurn_some {i : Instr} {s : State} (h : s.pend = some i) : engineTurn s = exec i s := by
  unfold engineTurn
  split
  · rename_i j hj
    rw [h] at hj
    cases hj
    rfl
  · rename_i hn
    rw [h] at hn
    cases hn

/-- The engine's turn does nothing with no command in flight (R134). -/
theorem engineTurn_none {s : State} (h : s.pend = none) : engineTurn s = .next s := by
  unfold engineTurn
  split
  · rename_i j hj
    rw [h] at hj
    cases hj
  · rfl

/-- Bit 0 of the value a read of STATUS returns is BUSY (R38, R74). -/
theorem statusValue_bit0 (s : State) : (statusValue s).getLsbD 0 = s.busy := by
  have h : ∀ c k e d b : Bool,
      (flagBit c 4 ||| flagBit k 3 ||| flagBit e 2 ||| flagBit d 1 ||| flagBit b 0).getLsbD 0 = b := by decide
  rw [statusValue, locate_status]
  exact h _ _ _ _ _

/-- A read of STATUS returns its value, busy or not (R89). -/
theorem busRead_status (s : State) : s.busRead 0xF2 = s.returnByte (statusValue s) := by
  rw [State.busRead, statusValue, locate_status]
  rfl

/-- A turn of `wait` on an idle block reads STATUS once and ends the loop (R109). -/
theorem waitTurn_idle {turns : Nat} {s : State} (h : s.busy = false) :
    waitTurn turns s = s.returnByte (statusValue s) := by
  simp only [waitTurn, statusValue_bit0, h, busRead_status]
  rfl

/-- A turn of `wait` on a busy block reads STATUS and goes round again (R109). -/
theorem waitTurn_busy {turns : Nat} {s : State} (h : s.busy = true) :
    waitTurn turns s = (s.returnByte (statusValue s)).withEvents (loopAgain turns ++ s.events) := by
  simp only [waitTurn, statusValue_bit0, h, busRead_status]
  rfl

/-- A turn of `wait` changes only what has been read and what comes next. -/
theorem waitTurn_eq (turns : Nat) (s : State) :
    ∃ b es, waitTurn turns s = { s with reads := s.reads ++ [b], events := es } := by
  cases h : s.busy with
  | false => exact ⟨_, s.events, waitTurn_idle h⟩
  | true => exact ⟨_, _, waitTurn_busy h⟩

/-- Every event answers a next state. -/
theorem takeEvent_answers (e : Event) (s : State) : ∃ t, takeEvent e s = .next t := by
  cases e with
  | rd a => exact ⟨_, rfl⟩
  | poll turns => exact ⟨_, rfl⟩
  | reset => exact ⟨_, rfl⟩
  | engine =>
    cases hp : s.pend with
    | none => exact ⟨s, by simp [takeEvent, engineTurn, hp]⟩
    | some i => simpa [takeEvent, engineTurn, hp] using exec_answers i s
  | wr a v =>
    simp only [takeEvent, busWrite]
    cases locate a <;> try exact ⟨_, rfl⟩
    simp only [issue]
    split
    · exact ⟨_, rfl⟩
    · cases decodeOp v s.arg with
      | none => exact ⟨_, rfl⟩
      | some i => exact exec_answers i _

/-- The step takes the event at the head of the list. -/
theorem step_cons {e : Event} {rest : List Event} {s : State} (h : s.events = e :: rest) :
    step s = takeEvent e (s.withEvents rest) := by
  simp [step, h]

/-- With no event left, the step is the engine's. -/
theorem step_nil {s : State} (h : s.events = []) : step s = engineTurn s := by
  simp [step, h]

/-- Every step answers a next state (R280). -/
theorem step_answers (s : State) : ∃ t, step s = .next t := by
  cases he : s.events with
  | nil => rw [step_nil he]; exact takeEvent_answers .engine s
  | cons e rest => rw [step_cons he]; exact takeEvent_answers e _

/-- What a step can be: an event taken, or the engine's turn with no event left. -/
theorem step_cases {s t : State} (h : step s = .next t) :
    (s.events = [] ∧ takeEvent .engine s = .next t) ∨
    ∃ e rest, s.events = e :: rest ∧ takeEvent e (s.withEvents rest) = .next t := by
  cases he : s.events with
  | nil => rw [step_nil he] at h; exact .inl ⟨rfl, h⟩
  | cons e rest => rw [step_cons he] at h; exact .inr ⟨e, rest, rfl, h⟩

/-- What the engine's turn can do: complete the command in flight, or nothing. -/
theorem engine_cases {s t : State} (h : takeEvent .engine s = .next t) :
    (s.pend = none ∧ t = s) ∨ ∃ i, s.pend = some i ∧ t = (effectOf i s).finish := by
  cases hp : s.pend with
  | none => rw [takeEvent, engineTurn_none hp] at h; cases h; exact .inl ⟨rfl, rfl⟩
  | some i => rw [takeEvent, engineTurn_some hp, exec_completes hp] at h; cases h; exact .inr ⟨i, rfl, rfl⟩

/-- CMD is the one address 0xF0 (R71). -/
theorem locate_eq_cmd {a : Byte} (h : locate a = .cmd) : a = 0xF0 := by
  revert a
  decide +kernel

/-- STATUS is the one address 0xF2 (R71). -/
theorem locate_eq_status {a : Byte} (h : locate a = .status) : a = 0xF2 := by
  revert a
  decide +kernel

/-- A run of one more step begins with that step. -/
theorem run_succ {n : Nat} {s t : State} (h : step s = .next t) :
    Host.Core.run Sys2Proof.core (n + 1) s = Host.Core.run Sys2Proof.core n t := by
  have hs : Sys2Proof.core.step s = .next t := h
  simp only [Host.Core.run]
  rw [hs]

/-- The engine's event completes the command in flight (R134). -/
theorem step_engine {i : Instr} {rest : List Event} {s : State} (he : s.events = .engine :: rest)
    (hp : s.pend = some i) : step s = .next (effectOf i (s.withEvents rest)).finish := by
  have h : (s.withEvents rest).pend = some i := hp
  rw [step_cons he, takeEvent, engineTurn_some h, exec_completes h]

/-- A turn of `wait` with a command in flight: the host goes round again (R109). -/
theorem step_poll_busy {i : Instr} {turns : Nat} {rest : List Event} {s : State} (he : s.events = .poll turns :: rest)
    (hp : s.pend = some i) :
    step s = .next { s with events := loopAgain turns ++ rest, reads := s.reads ++ [s.statusByte] } := by
  have h : (s.withEvents rest).busy = true := State.busy_of_some (i := i) hp
  rw [step_cons he, takeEvent, waitTurn_busy h, statusValue, locate_status]
  rfl

/-- A turn of `wait` with no command in flight: the loop ends (R109). -/
theorem step_poll_idle {turns : Nat} {rest : List Event} {s : State} (he : s.events = .poll turns :: rest)
    (hp : s.pend = none) : step s = .next { s with events := rest, reads := s.reads ++ [s.statusByte] } := by
  have h : (s.withEvents rest).busy = false := by simp [State.busy, hp]
  rw [step_cons he, takeEvent, waitTurn_idle h, statusValue, locate_status]
  rfl

/-- A run of no step stays. -/
theorem run_zero (s : State) : Host.Core.run Sys2Proof.core 0 s = .next s := rfl

/-- A run goes on from where a shorter run ended. -/
theorem run_add {m n : Nat} {s t : State} (h : Host.Core.run Sys2Proof.core m s = .next t) :
    Host.Core.run Sys2Proof.core (m + n) s = Host.Core.run Sys2Proof.core n t := by
  induction m generalizing s with
  | zero => rw [run_zero] at h; cases h; rw [Nat.zero_add]
  | succ m ih =>
    obtain ⟨u, hu⟩ := step_answers s
    rw [Nat.add_right_comm, run_succ hu]
    rw [run_succ hu] at h
    exact ih h

end Sys2Proof.Machine
end

