-- ==== Sys2Proof/Laws/Host.lean ====
section
/-! SUPPORT. Runs of the host's statements: loads, reads in a row, and the loop `wait`. -/

namespace Sys2Proof.Machine

/-- A run of the writes of `loadFrom`: if `store` is what one write of byte k does to an idle block, the run folds it
over the bytes. -/
theorem run_loadFrom (store : State → Nat → Byte → State) (r : RegName) (n : Nat)
    (hstore : ∀ s k v rest, k < n → s.pend = none →
      takeEvent (.wr (r.addr k) v) (s.withEvents rest) = .next ((store s k v).withEvents rest) ∧
        (store s k v).pend = none)
    (bytes : List Byte) (j : Nat) (s : State) (rest : List Event) (hp : s.pend = none) (hj : j + bytes.length ≤ n) :
    Host.Core.run Sys2Proof.core bytes.length (s.withEvents (loadFrom r j bytes ++ rest)) =
      .next (((bytes.zipIdx j).foldl (fun t p => store t p.2 p.1) s).withEvents rest) := by
  induction bytes generalizing j s with
  | nil => rfl
  | cons b bytes ih =>
    simp only [List.length_cons] at hj
    obtain ⟨hs, hq⟩ := hstore s j b (loadFrom r (j + 1) bytes ++ rest) (by omega) hp
    have h1 : step (s.withEvents (loadFrom r j (b :: bytes) ++ rest)) = _ := (step_cons rfl).trans hs
    rw [List.length_cons, run_succ h1, ih (j + 1) _ hq (by omega)]
    simp

/-- A read on an idle block puts the register's byte after the bytes read before (R74). -/
theorem step_rd_idle {a : Byte} {rest : List Event} {s : State} (he : s.events = .rd a :: rest) (hp : s.pend = none) :
    step s = .next { s with events := rest, reads := s.reads ++ [readReg (locate a) s] } := by
  have hb : (s.withEvents rest).busy = false := by simp [State.busy, hp]
  have hr : readReg (locate a) (s.withEvents rest) = readReg (locate a) s := by cases locate a <;> rfl
  rw [step_cons he, takeEvent, busRead_idle hb, hr]
  rfl

/-- What a read returns does not depend on what comes next or has been read. -/
theorem readReg_reads (w : WindowReg) (s : State) (es : List Event) (bs : List Byte) :
    readReg w { s with events := es, reads := bs } = readReg w s := by
  cases w <;> rfl

/-- A run of reads on an idle block collects their bytes in order (R74, R109). -/
theorem run_reads (addrs : List Byte) (s : State) (rest : List Event) (hp : s.pend = none)
    (he : s.events = addrs.map Event.rd ++ rest) :
    Host.Core.run Sys2Proof.core addrs.length s =
      .next { s with events := rest, reads := s.reads ++ addrs.map fun a => readReg (locate a) s } := by
  induction addrs generalizing s with
  | nil => cases s; simp_all [run_zero]
  | cons a addrs ih =>
    have h1 := step_rd_idle (rest := addrs.map Event.rd ++ rest) (by simpa using he) hp
    let t : State := { s with events := addrs.map Event.rd ++ rest, reads := s.reads ++ [readReg (locate a) s] }
    have h2 := ih t hp rfl
    refine (run_succ h1).trans (h2.trans ?_)
    simp [t, readReg_reads]

/-- The turns of `wait` that find a command in flight, up to the engine's move: each reads STATUS and changes nothing
else, and the command stays in flight (R109, R132). -/
theorem run_poll_busy {i : Instr} {rest : List Event} (turns : Nat) (s : State) (hp : s.pend = some i)
    (he : s.events = .poll turns :: rest) :
    Host.Core.run Sys2Proof.core (turns + 1) s = .next { s with
        events := .engine :: .poll 0 :: rest
        reads := s.reads ++ List.replicate (turns + 1) s.statusByte } ∧
      ∀ m, m ≤ turns + 1 → ∃ w, Host.Core.run Sys2Proof.core m s = .next w ∧ w.pend = some i := by
  induction turns generalizing s with
  | zero =>
    have h1 := step_poll_busy he hp
    refine ⟨run_succ (n := 0) h1, fun m hm => ?_⟩
    match m, hm with
    | 0, _ => exact ⟨s, rfl, hp⟩
    | 1, _ => exact ⟨_, run_succ (n := 0) h1, hp⟩
  | succ turns ih =>
    have h1 := step_poll_busy he hp
    let t : State := { s with events := loopAgain (turns + 1) ++ rest, reads := s.reads ++ [s.statusByte] }
    obtain ⟨h2, h3⟩ := ih t hp rfl
    refine ⟨(run_succ h1).trans (h2.trans ?_), fun m hm => ?_⟩
    · simp [t, State.statusByte, State.busy, List.replicate_succ]
    · match m with
      | 0 => exact ⟨s, rfl, hp⟩
      | m + 1 => rw [run_succ h1]; exact h3 m (by omega)

end Sys2Proof.Machine
end

