-- ==== Sys2Proof/Laws/PerInstr.lean ====
section
/-! SUPPORT. The family `OpcodeMap`: for each command, that its opcode and its operand byte decode to it. -/

/-- The opcode map read backwards gives the command (30_encoding.md R104). -/
def Sys2Proof.Laws.OpcodeMap.Statement (i : Sys2Proof.Instr) : Prop :=
  Sys2Proof.decodeOp (Sys2Proof.opcode i) i.arg = some i

theorem Sys2Proof.Laws.OpcodeMap.nop (arg : Sys2Proof.Byte) : Statement (.nop arg) := rfl
theorem Sys2Proof.Laws.OpcodeMap.gfAdd (arg : Sys2Proof.Byte) : Statement (.gfAdd arg) := rfl
theorem Sys2Proof.Laws.OpcodeMap.gfMul (arg : Sys2Proof.Byte) : Statement (.gfMul arg) := rfl
theorem Sys2Proof.Laws.OpcodeMap.blkXor (arg : Sys2Proof.Byte) : Statement (.blkXor arg) := rfl
theorem Sys2Proof.Laws.OpcodeMap.sub (arg : Sys2Proof.Byte) : Statement (.sub arg) := rfl
theorem Sys2Proof.Laws.OpcodeMap.subInv (arg : Sys2Proof.Byte) : Statement (.subInv arg) := rfl
theorem Sys2Proof.Laws.OpcodeMap.lcomb (arg : Sys2Proof.Byte) : Statement (.lcomb arg) := rfl
theorem Sys2Proof.Laws.OpcodeMap.rstep (arg : Sys2Proof.Byte) : Statement (.rstep arg) := rfl
theorem Sys2Proof.Laws.OpcodeMap.rstepInv (arg : Sys2Proof.Byte) : Statement (.rstepInv arg) := rfl
theorem Sys2Proof.Laws.OpcodeMap.lin (arg : Sys2Proof.Byte) : Statement (.lin arg) := rfl
theorem Sys2Proof.Laws.OpcodeMap.linInv (arg : Sys2Proof.Byte) : Statement (.linInv arg) := rfl
theorem Sys2Proof.Laws.OpcodeMap.rcon (arg : Sys2Proof.Byte) : Statement (.rcon arg) := rfl
theorem Sys2Proof.Laws.OpcodeMap.feistel (arg : Sys2Proof.Byte) : Statement (.feistel arg) := rfl
theorem Sys2Proof.Laws.OpcodeMap.expandKey (arg : Sys2Proof.Byte) : Statement (.expandKey arg) := rfl
theorem Sys2Proof.Laws.OpcodeMap.encBlock (arg : Sys2Proof.Byte) : Statement (.encBlock arg) := rfl
theorem Sys2Proof.Laws.OpcodeMap.decBlock (arg : Sys2Proof.Byte) : Statement (.decBlock arg) := rfl
theorem Sys2Proof.Laws.OpcodeMap.ctrInit (arg : Sys2Proof.Byte) : Statement (.ctrInit arg) := rfl
theorem Sys2Proof.Laws.OpcodeMap.ctrChunk (arg : Sys2Proof.Byte) : Statement (.ctrChunk arg) := rfl
end

