-- ==== Sys2Proof/Tests/Slice0.lean ====
section
/-! SUPPORT. Tests of the model, with expected results from the spec's vectors (95_test_vectors.md), and a witness for
the hypotheses of each statement. -/

namespace Sys2Proof.Tests

open Sys2Proof Sys2Proof.Machine

/-! ## Helpers -/

/-- The block after reset with these events to come. -/
def facing (es : List Event) (s : State) : State := { s with events := es }

/-- The block with a command in flight: PEND and ARG as its issue left them. -/
def inFlight (i : Instr) (s : State) : State := { s with pend := some i, arg := i.arg, done := false }

/-- The block with a valid key and an open stream. -/
def keyed : State := { State.reset with kv := true, ctrv := true }

/-- What a step leaves in one field, if it answers a next state. -/
def seen {α : Type} (f : State → α) (s : State) : Option α :=
  match step s with
  | .next t => some (f t)
  | .fault _ => none
  | .refused _ => none

/-- The byte `v` in lane 0, zero elsewhere. -/
def head (v : Byte) : Block := #v[v, 0, 0, 0, 0, 0, 0, 0, 0, 0, 0, 0, 0, 0, 0, 0]

/-! ## Well-formedness (30_encoding.md R103) -/

theorem test_wellFormed_refuses_rcon_0 : (Instr.rcon 0).wellFormed = false := by decide

theorem test_wellFormed_refuses_rcon_33 : (Instr.rcon 33).wellFormed = false := by decide

theorem test_wellFormed_refuses_ctrChunk_0 : (Instr.ctrChunk 0).wellFormed = false := by decide

theorem test_wellFormed_refuses_ctrChunk_17 : (Instr.ctrChunk 17).wellFormed = false := by decide

theorem test_wellFormed_accepts_bounds : (Instr.rcon 1).wellFormed = true ∧ (Instr.rcon 32).wellFormed = true ∧
    (Instr.ctrChunk 1).wellFormed = true ∧ (Instr.ctrChunk 16).wellFormed = true ∧ (Instr.nop 0xFF).wellFormed = true := by
  decide

/-! ## Decoding: words written out bit by bit, ARG in bits 15:8 and OP in bits 7:0 (30_encoding.md R101, R104) -/

theorem test_decode_control : decodeTableWord 16 0b1010010100000000 = some (.nop 0xA5) := by decide

theorem test_decode_galois : decodeTableWord 16 0b0000000000000001 = some (.gfAdd 0) ∧
    decodeTableWord 16 0b0000000000000010 = some (.gfMul 0) ∧
    decodeTableWord 16 0b0000000000000011 = some (.blkXor 0) := by decide

theorem test_decode_substitution : decodeTableWord 16 0b0000000000010000 = some (.sub 0) ∧
    decodeTableWord 16 0b0000000000010001 = some (.subInv 0) := by decide

theorem test_decode_linear : decodeTableWord 16 0b0000000000100000 = some (.lcomb 0) ∧
    decodeTableWord 16 0b0000000000100001 = some (.rstep 0) ∧
    decodeTableWord 16 0b0000000000100010 = some (.rstepInv 0) ∧
    decodeTableWord 16 0b0000000000100011 = some (.lin 0) ∧
    decodeTableWord 16 0b0000000000100100 = some (.linInv 0) := by decide

theorem test_decode_keySchedule : decodeTableWord 16 0b0010000000110000 = some (.rcon 32) ∧
    decodeTableWord 16 0b0000000000110001 = some (.feistel 0) ∧
    decodeTableWord 16 0b0000000000110010 = some (.expandKey 0) := by decide

theorem test_decode_blockCipher : decodeTableWord 16 0b0000000001000000 = some (.encBlock 0) ∧
    decodeTableWord 16 0b0000000001000001 = some (.decBlock 0) := by decide

theorem test_decode_counterMode : decodeTableWord 16 0b0000000001010000 = some (.ctrInit 0) ∧
    decodeTableWord 16 0b0001000001010001 = some (.ctrChunk 16) := by decide

theorem test_decode_refuses : decodeTableWord 16 0b0000000000000100 = none ∧
    decodeTableWord 16 0b0000000011111111 = none ∧ decode [0x52, 0x00] = .error (.illegalCmd 0x52) ∧
    decode [0x00] = .error (.truncated 1) := ⟨by decide, by decide, rfl, rfl⟩

theorem test_encode : encode (.ctrChunk 0x10) = [0x51, 0x10] ∧ cmd16 (.rcon 0x20) = 0x2030 := by decide

/-! ## The commands: one completion each, on the spec's vectors; and rejections (V8 to V20) -/

/-- After a NOP, STATUS reads 0x02 (40_sequencer.md R138). -/
theorem test_nop : seen State.statusByte (inFlight (.nop 0) State.reset) = some 0x02 := by decide

/-- V8. -/
theorem test_gfAdd : seen State.doutA (inFlight (.gfAdd 0) { State.reset with
    dinA := head 0x57, dinB := head 0x83, doutA := Vector.replicate 16 0xEE }) = some (head 0xd4) := by decide +kernel

/-- V8: the general case, whose shifted-out bits fold more than once. -/
theorem test_gfMul : seen State.doutA (inFlight (.gfMul 0) { State.reset with
    dinA := head 0x57, dinB := head 0x83, doutA := Vector.replicate 16 0xEE }) = some (head 0xf2) := by decide +kernel

/-- V9. -/
theorem test_blkXor : seen State.doutA (inFlight (.blkXor 0) { State.reset with
    dinA := #v[0x11, 0x22, 0x33, 0x44, 0x55, 0x66, 0x77, 0x00, 0xff, 0xee, 0xdd, 0xcc, 0xbb, 0xaa, 0x99, 0x88]
    dinB := #v[0x88, 0x99, 0xaa, 0xbb, 0xcc, 0xdd, 0xee, 0xff, 0x00, 0x11, 0x22, 0x33, 0x44, 0x55, 0x66, 0x77] }) =
    some #v[0x99, 0xbb, 0x99, 0xff, 0x99, 0xbb, 0x99, 0xff, 0xff, 0xff, 0xff, 0xff, 0xff, 0xff, 0xff, 0xff] := by
  decide +kernel

/-- V10. -/
theorem test_sub : seen State.doutA (inFlight (.sub 0) { State.reset with
    dinA := #v[0xff, 0xee, 0xdd, 0xcc, 0xbb, 0xaa, 0x99, 0x88, 0x11, 0x22, 0x33, 0x44, 0x55, 0x66, 0x77, 0x00] }) =
    some #v[0xb6, 0x6c, 0xd8, 0x88, 0x7d, 0x38, 0xe8, 0xd7, 0x77, 0x65, 0xae, 0xea, 0x0c, 0x9a, 0x7e, 0xfc] := by
  decide +kernel

/-- V10. -/
theorem test_subInv : seen State.doutA (inFlight (.subInv 0) { State.reset with
    dinA := #v[0x23, 0xae, 0x65, 0x63, 0x3f, 0x84, 0x2d, 0x29, 0xc5, 0xdf, 0x52, 0x9c, 0x13, 0xf5, 0xac, 0xda] }) =
    some #v[0x0c, 0x33, 0x22, 0xfe, 0xd5, 0x31, 0xe4, 0x63, 0x0d, 0x80, 0xef, 0x5c, 0x5a, 0x81, 0xc5, 0x0b] := by
  decide +kernel

/-- V11. -/
theorem test_lcomb : seen State.doutA (inFlight (.lcomb 0) { State.reset with
    dinA := #v[0x11, 0x22, 0x33, 0x44, 0x55, 0x66, 0x77, 0x00, 0xff, 0xee, 0xdd, 0xcc, 0xbb, 0xaa, 0x99, 0x88] }) =
    some (head 0xf5) := by
  decide +kernel

/-- V11. -/
theorem test_rstep : seen State.doutA (inFlight (.rstep 0) { State.reset with
    dinA := #v[0x94, 0, 0, 0, 0, 0, 0, 0, 0, 0, 0, 0, 0, 0, 0, 0x01] }) =
    some #v[0xa5, 0x94, 0, 0, 0, 0, 0, 0, 0, 0, 0, 0, 0, 0, 0, 0] := by
  decide +kernel

/-- V11. -/
theorem test_rstepInv : seen State.doutA (inFlight (.rstepInv 0) { State.reset with
    dinA := #v[0x94, 0, 0, 0, 0, 0, 0, 0, 0, 0, 0, 0, 0, 0, 0, 0x01] }) =
    some #v[0, 0, 0, 0, 0, 0, 0, 0, 0, 0, 0, 0, 0, 0, 0x01, 0] := by
  decide +kernel

/-- V12. -/
theorem test_lin : seen State.doutA (inFlight (.lin 0) { State.reset with
    dinA := #v[0x64, 0xa5, 0x94, 0x00, 0x00, 0x00, 0x00, 0x00, 0x00, 0x00, 0x00, 0x00, 0x00, 0x00, 0x00, 0x00] }) =
    some #v[0xd4, 0x56, 0x58, 0x4d, 0xd0, 0xe3, 0xe8, 0x4c, 0xc3, 0x16, 0x6e, 0x4b, 0x7f, 0xa2, 0x89, 0x0d] := by
  decide +kernel

/-- V12. -/
theorem test_linInv : seen State.doutA (inFlight (.linInv 0) { State.reset with
    dinA := #v[0xe6, 0xa8, 0x09, 0x4f, 0xee, 0x0a, 0xa2, 0x04, 0xfd, 0x97, 0xbc, 0xb0, 0xb4, 0x4b, 0x85, 0x80] }) =
    some #v[0x0e, 0x93, 0x69, 0x1a, 0x0c, 0xfc, 0x60, 0x40, 0x8b, 0x7b, 0x68, 0xf6, 0x6b, 0x51, 0x3c, 0x13] := by
  decide +kernel

/-- V13. -/
theorem test_rcon : seen State.doutA (inFlight (.rcon 8) State.reset) =
    some #v[0xf6, 0x59, 0x36, 0x16, 0xe6, 0x05, 0x56, 0x89, 0xad, 0xfb, 0xa1, 0x80, 0x27, 0xaa, 0x2a, 0x08] := by
  decide +kernel

/-- V13: ARG = 0x21 is rejected, OUT_OF_RANGE. -/
theorem test_rcon_rejected : seen (fun t => (t.errcode, t.statusByte, t.pend))
    (facing [.wr 0xF0 0x30] { State.reset with arg := 0x21 }) = some (0x03, 0x06, none) := by
  decide

/-- V13, row j = 2. -/
theorem test_feistel : seen (fun t => (t.doutA, t.doutB)) (inFlight (.feistel 0) { State.reset with
    dinC := #v[0xdc, 0x87, 0xec, 0xe4, 0xd8, 0x90, 0xf4, 0xb3, 0xba, 0x4e, 0xb9, 0x20, 0x79, 0xcb, 0xeb, 0x02]
    dinA := #v[0xc3, 0xd5, 0xfa, 0x01, 0xeb, 0xe3, 0x6f, 0x7a, 0x93, 0x74, 0x42, 0x7a, 0xd7, 0xca, 0x89, 0x49]
    dinB := #v[0x88, 0x99, 0xaa, 0xbb, 0xcc, 0xdd, 0xee, 0xff, 0x00, 0x11, 0x22, 0x33, 0x44, 0x55, 0x66, 0x77] }) =
    some (#v[0x37, 0x77, 0x77, 0x48, 0xe5, 0x64, 0x53, 0x37, 0x7d, 0x5e, 0x26, 0x2d, 0x90, 0x90, 0x3f, 0x87],
      #v[0xc3, 0xd5, 0xfa, 0x01, 0xeb, 0xe3, 0x6f, 0x7a, 0x93, 0x74, 0x42, 0x7a, 0xd7, 0xca, 0x89, 0x49]) := by
  decide +kernel

/-- V14: KV is set, a stream is closed, and RK[0] and RK[1] are the halves of the key (R223, R227). -/
theorem test_expandKey : seen (fun t => (t.kv, t.ctrv, t.rk[0][15], t.rk[1][0])) (inFlight (.expandKey 0) { State.reset with
    ctrv := true, key := (Vector.replicate 32 0).set 15 0x77 |>.set 16 0xfe }) = some (true, false, 0x77, 0xfe) := by
  decide +kernel

/-- V15, row 0: the first round of the official encryption. -/
theorem test_encBlock_round : encryptRound
    #v[0x88, 0x99, 0xaa, 0xbb, 0xcc, 0xdd, 0xee, 0xff, 0x00, 0x11, 0x22, 0x33, 0x44, 0x55, 0x66, 0x77]
    #v[0x11, 0x22, 0x33, 0x44, 0x55, 0x66, 0x77, 0x00, 0xff, 0xee, 0xdd, 0xcc, 0xbb, 0xaa, 0x99, 0x88] =
    #v[0xe2, 0x97, 0xb6, 0x86, 0xe3, 0x55, 0xb0, 0xa1, 0xcf, 0x4a, 0x2f, 0x92, 0x49, 0x14, 0x08, 0x30] := by
  decide +kernel

/-- V20 row E1: without a key ENC_BLOCK is rejected, NO_KEY. -/
theorem test_encBlock_rejected : seen (fun t => (t.errcode, t.statusByte)) (facing [.wr 0xF0 0x40] State.reset) =
    some (0x04, 0x06) := by decide

/-- V15, row 0, backwards: the last round of the official decryption. -/
theorem test_decBlock_round : decryptRound
    #v[0x88, 0x99, 0xaa, 0xbb, 0xcc, 0xdd, 0xee, 0xff, 0x00, 0x11, 0x22, 0x33, 0x44, 0x55, 0x66, 0x77]
    #v[0xe2, 0x97, 0xb6, 0x86, 0xe3, 0x55, 0xb0, 0xa1, 0xcf, 0x4a, 0x2f, 0x92, 0x49, 0x14, 0x08, 0x30] =
    #v[0x11, 0x22, 0x33, 0x44, 0x55, 0x66, 0x77, 0x00, 0xff, 0xee, 0xdd, 0xcc, 0xbb, 0xaa, 0x99, 0x88] := by
  decide +kernel

/-- V16: without a key DEC_BLOCK is rejected, NO_KEY. -/
theorem test_decBlock_rejected : seen (fun t => (t.errcode, t.statusByte)) (facing [.wr 0xF0 0x41] State.reset) =
    some (0x04, 0x06) := by decide

/-- 46_counter.md R265's example. -/
theorem test_ctrInit : seen (fun t => (t.ctr, t.ctrv)) (inFlight (.ctrInit 0) { State.reset with
    iv := #v[0x12, 0x34, 0x56, 0x78, 0x90, 0xab, 0xce, 0xf0] }) =
    some (#v[0x12, 0x34, 0x56, 0x78, 0x90, 0xab, 0xce, 0xf0, 0, 0, 0, 0, 0, 0, 0, 0], true) := by
  decide +kernel

/-- A short chunk wraps CTR, zeroes the lanes beyond it and closes the stream (R261, R266). -/
theorem test_ctrChunk_short : seen (fun t => (t.ctr, t.ctrv, t.doutA[1])) (inFlight (.ctrChunk 1) { keyed with
    ctr := Vector.replicate 16 0xff, dinA := Vector.replicate 16 0x55 }) = some (Block.zero, false, 0) := by
  decide +kernel

/-- V20: NO_COUNTER comes before INVALID_LENGTH (R283). -/
theorem test_ctrChunk_rejected : seen (fun t => (t.errcode, t.done)) (facing [.wr 0xF0 0x51] { State.reset with
    kv := true, arg := 0x11 }) = some (0x05, true) := by
  decide

/-! ## The window and the errors (20_memory.md R74, R75; 60_exceptions.md R281) -/

theorem test_reserved_op_is_illegal : seen (fun t => (t.errcode, t.statusByte)) (facing [.wr 0xF0 0x04] State.reset) =
    some (0x01, 0x06) := by decide

theorem test_busy_write_dropped : seen (fun t => (t.errcode, t.arg, t.statusByte))
    (facing [.wr 0xF1 0x33] (inFlight (.nop 0x07) State.reset)) = some (0x06, 0x07, 0x05) := by decide

theorem test_key_reads_zero : seen State.reads (facing [.rd 0x50] { State.reset with key := Vector.replicate 32 0xAA }) =
    some [0x00] := by decide

/-- One turn of `wait` on an idle block ends it; on a busy block it goes round again (R109). -/
theorem test_wait : seen (fun t => (t.reads, t.events)) (facing [.poll 7] State.reset) = some ([0x00], []) ∧
    seen (fun t => (t.reads, t.events)) (facing [.poll 7] (inFlight (.nop 0) State.reset)) = some ([0x01], [.poll 6]) := by
  decide

/-- Hex strings by hand (R109): the first two digits are byte 0, in either case; an odd number of digits is refused. -/
theorem test_hex : bytesOfHex ['1', '2', '3', '4', 'A', 'b'] = some [0x12, 0x34, 0xab] ∧
    hexOfBytes [0x90, 0xab] = ['9', '0', 'a', 'b'] ∧ bytesOfHex ['1'] = none := by
  decide

theorem test_placed_word_is_issued : seen (fun t => (t.pend, t.arg)) (State.reset.withFetchWord 16 0x2030) =
    some (some (.rcon 0x20), 0x20) := by decide

/-! ## Witnesses: states and operands that meet the hypotheses of each statement, at the ends of each range -/

theorem witness_DecodeInvertsEncode : decode [0x51, 0x10, 0x99] = .ok (.ctrChunk 0x10, [0x99]) := rfl

theorem witness_ReservedOpsAreRejected : ∀ op ∈ [(0x04 : Byte), 0x0F, 0x12, 0x1F, 0x25, 0x2F, 0x33, 0x3F, 0x42, 0x4F, 0x52, 0xFF],
    Spec.reservedOp op.toNat = true ∧
    (facing [.wr 0xF0 op] State.reset).events = [.wr 0xF0 op] ∧ (facing [.wr 0xF0 op] State.reset).pend = none ∧
    (facing [.wr 0xF0 op] (inFlight (.nop 0) State.reset)).pend ≠ none := by
  decide

theorem witness_CmdWriteRunsDecodedCommand :
    let s := facing [.wr 0xF0 0x30] { State.reset with arg := 0x20 }
    let b := facing [.wr 0xF0 0x30] (inFlight (.lin 0) State.reset)
    s.events = [.wr 0xF0 0x30] ∧ s.pend = none ∧ decode [0x30, s.arg] = .ok (.rcon 0x20, []) ∧
    b.events = [.wr 0xF0 0x30] ∧ b.pend = some (.lin 0) :=
  ⟨rfl, rfl, rfl, rfl, rfl⟩

theorem witness_EngineTurnRunsPendingCommand :
    (facing [.engine] (inFlight (.lin 0) State.reset)).events = [.engine] ∧
    (facing [.engine] (inFlight (.lin 0) State.reset)).pend = some (.lin 0) ∧
    (inFlight (.lin 0) State.reset).events = [] ∧ (inFlight (.lin 0) State.reset).pend = some (.lin 0) ∧
    (facing [.engine] State.reset).events = [.engine] ∧ (facing [.engine] State.reset).pend = none ∧
    State.reset.events = [] ∧ State.reset.pend = none := by
  decide

theorem witness_PlacedWordRunsNext : decodeTableWord 16 0x1051 = some (.ctrChunk 0x10) ∧
    decodeTableWord 8 0x00 = some (.nop 0) := by
  decide

/-- The three outcomes of a command's own checks, at both ends of the ranges. -/
theorem witness_IssueReportsFirstFailure :
    (facing [.wr 0xF0 0x30] State.reset).events = [.wr 0xF0 0x30] ∧
    (inFlight (.nop 0) State.reset).pend = some (.nop 0) ∧ decodeOp 0xFF 0 = none ∧ decodeOp 0x30 0 = some (.rcon 0) ∧
    Spec.ownError (.rcon 0) State.reset = some 0x03 ∧ Spec.ownError (.rcon 33) State.reset = some 0x03 ∧
    Spec.ownError (.rcon 1) State.reset = none ∧ Spec.ownError (.rcon 32) State.reset = none ∧
    Spec.ownError (.ctrChunk 1) State.reset = some 0x04 ∧
    Spec.ownError (.ctrChunk 0) { keyed with ctrv := false } = some 0x05 ∧
    Spec.ownError (.ctrChunk 0) keyed = some 0x02 ∧ Spec.ownError (.ctrChunk 17) keyed = some 0x02 ∧
    Spec.ownError (.ctrChunk 1) keyed = none ∧ Spec.ownError (.ctrChunk 16) keyed = none := by
  decide

theorem witness_CompletionWritesOnlyNamedRegisters :
    (inFlight (.nop 0) State.reset).pend = some (.nop 0) ∧ Spec.writesDoutA (.nop 0) = false ∧
    (∀ a, Instr.nop 0 ≠ .feistel a) ∧ (∀ a, Instr.nop 0 ≠ .expandKey a) ∧ (∀ a, Instr.nop 0 ≠ .ctrInit a) ∧
    (∀ a, Instr.nop 0 ≠ .ctrChunk a) ∧ Spec.writesDoutA (.feistel 7) = true ∧ Instr.feistel 7 = .feistel 7 := by
  refine ⟨rfl, rfl, ?_, ?_, ?_, ?_, rfl, rfl⟩ <;> simp

theorem witness_CompletionPointIsImmaterial :
    let hs : List Event := [.rd 0x30, .wr 0x00 0x55, .wr 0xF0 0x32, .wr 0xF2 0x06, .rd 0x8F]
    let s := facing (hs ++ [.engine]) (inFlight (.encBlock 0) keyed)
    (∀ e ∈ hs, Spec.onBus e = true) ∧ s.events = hs ++ [.engine] ∧ s.pend = some (.encBlock 0) := by
  decide

/-- An error at each kind of write that can raise one, at the ends of the input registers. -/
theorem witness_ErrorsAreSynchronousAndNeverStop :
    (∀ e ∈ [Event.wr 0x00 0, .wr 0x2F 0, .wr 0x50 0, .wr 0x77 0, .wr 0xF1 0, .wr 0xF0 0x00],
      seen State.err (facing [e] (inFlight (.lin 0) State.reset)) = some true) ∧
    seen State.err (facing [.wr 0xF0 0x04] State.reset) = some true ∧ State.reset.err = false ∧
    Spec.engineMoves (inFlight (.nop 0) State.reset) ∧
    Spec.engineMoves (facing [.engine] (inFlight (.nop 0) State.reset)) ∧
    seen State.done (inFlight (.nop 0) State.reset) = some true :=
  ⟨by decide, by decide, rfl, .inl rfl, .inr ⟨[], rfl⟩, by decide⟩

/-- A command in flight with no reset to come, and the events that may stand between it and its completion. -/
theorem witness_EveryCommandCompletes :
    let s := facing [.rd 0xF2, .poll 2, .wr 0xF0 0x01] (inFlight (.lin 0) State.reset)
    s.pend = some (.lin 0) ∧ Event.reset ∉ s.events ∧ Spec.stepsOfAll s.events = 7 := by
  decide

/-- A write of STATUS without bit 2, and the engine's turn with no event left. -/
theorem witness_FirstErrorIsKept :
    let s := facing [.wr 0xF2 0x02] { State.reset with err := true, errcode := 4 }
    let u := inFlight (.nop 0) { State.reset with err := true, errcode := 4 }
    s.err = true ∧ (∀ rest, s.events ≠ .reset :: rest) ∧
    (∀ (v : Byte) rest, v.getLsbD 2 = true → s.events ≠ .wr 0xF2 v :: rest) ∧
    seen (fun t => (t.err, t.errcode)) s = some (true, 4) ∧
    u.err = true ∧ (∀ rest, u.events ≠ .reset :: rest) ∧ (∀ (v : Byte) rest, u.events ≠ .wr 0xF2 v :: rest) ∧
    seen (fun t => (t.err, t.errcode)) u = some (true, 4) := by
  refine ⟨rfl, by simp [facing], ?_, by decide, rfl, by simp [inFlight, State.reset], by simp [inFlight, State.reset],
    by decide⟩
  intro v rest hv h
  simp only [facing, List.cons.injEq, Event.wr.injEq] at h
  rw [← h.1.2] at hv
  exact absurd hv (by decide)

theorem witness_StatusWriteClearsErrors :
    (facing [.wr 0xF2 0x06] { State.reset with err := true }).events = [.wr 0xF2 0x06] := rfl

/-- Every byte register of the window, at its first and its last byte: address, base and byte; idle and busy. -/
theorem witness_HostReadReturnsRegister :
    (∀ p ∈ [((0x00 : Byte), 0x00, 0, 16), (0x0F, 0x00, 15, 16), (0x10, 0x10, 0, 16), (0x1F, 0x10, 15, 16),
      (0x20, 0x20, 0, 16), (0x2F, 0x20, 15, 16), (0x30, 0x30, 0, 16), (0x3F, 0x30, 15, 16), (0x40, 0x40, 0, 16),
      (0x4F, 0x40, 15, 16), (0x70, 0x70, 0, 8), (0x77, 0x70, 7, 8), (0x80, 0x80, 0, 16), (0x8F, 0x80, 15, 16)],
      (facing [.rd p.1] State.reset).events = [.rd p.1] ∧ p.2.2.1 < p.2.2.2 ∧ p.1.toNat = p.2.1 + p.2.2.1) ∧
    (0x50 ≤ (0x50 : Byte).toNat ∧ (0x50 : Byte).toNat ≤ 0x6F) ∧ (0x50 ≤ (0x6F : Byte).toNat ∧ (0x6F : Byte).toNat ≤ 0x6F) ∧
    (0xF0 : Byte).toNat = 0xF0 ∧ (0xF1 : Byte).toNat = 0xF1 ∧ (0xF2 : Byte).toNat = 0xF2 ∧ (0xF3 : Byte).toNat = 0xF3 ∧
    (∀ a ∈ [(0x78 : Byte), 0x7F, 0x90, 0xEF, 0xF4, 0xFF],
      (0x78 ≤ a.toNat ∧ a.toNat ≤ 0x7F) ∨ (0x90 ≤ a.toNat ∧ a.toNat ≤ 0xEF) ∨ 0xF4 ≤ a.toNat) ∧
    (∀ a ∈ [(0x30 : Byte), 0x4F, 0x80, 0x8F],
      (0x30 ≤ a.toNat ∧ a.toNat ≤ 0x4F) ∨ (0x80 ≤ a.toNat ∧ a.toNat ≤ 0x8F)) ∧
    State.reset.pend = none ∧ (inFlight (.nop 0) State.reset).pend ≠ none ∧
    seen State.draws (facing [.rd 0x8F] (inFlight (.nop 0) State.reset)) = some 1 := by
  decide

theorem witness_HostWriteStoresOrDrops :
    (∀ p ∈ [((0x00 : Byte), 0x00, 0, 16), (0x0F, 0x00, 15, 16), (0x10, 0x10, 0, 16), (0x1F, 0x10, 15, 16),
      (0x20, 0x20, 0, 16), (0x2F, 0x20, 15, 16), (0x50, 0x50, 0, 32), (0x6F, 0x50, 31, 32), (0x70, 0x70, 0, 8),
      (0x77, 0x70, 7, 8)],
      (facing [.wr p.1 0xAB] State.reset).events = [.wr p.1 0xAB] ∧ p.2.2.1 < p.2.2.2 ∧ p.1.toNat = p.2.1 + p.2.2.1) ∧
    (0xF0 : Byte).toNat = 0xF0 ∧ (0xF1 : Byte).toNat = 0xF1 ∧ (0xF2 : Byte).toNat = 0xF2 ∧
    (∀ a ∈ [(0x00 : Byte), 0x2F, 0x50, 0x77, 0xF1],
      a.toNat < 0x30 ∨ (0x50 ≤ a.toNat ∧ a.toNat ≤ 0x77) ∨ a.toNat = 0xF1) ∧
    (∀ a ∈ [(0x30 : Byte), 0x4F, 0x78, 0x80, 0xEF, 0xF3, 0xFF],
      (0x30 ≤ a.toNat ∧ a.toNat ≤ 0x4F) ∨ (0x78 ≤ a.toNat ∧ a.toNat ≤ 0xEF) ∨ 0xF3 ≤ a.toNat) ∧
    State.reset.pend = none ∧ (inFlight (.nop 0) State.reset).pend ≠ none := by
  decide

/-- The first and the last byte of a string and of a register. -/
theorem witness_HostStatementsExpand : 0 < [(0x12 : Byte), 0x34].length ∧ 1 < [(0x12 : Byte), 0x34].length ∧
    0 < RegName.key.size ∧ 31 < RegName.key.size := by
  decide

theorem witness_LoadFillsOperandRegister : State.reset.pend = none ∧ 0 ≤ 16 ∧ 16 ≤ 16 := by decide

theorem witness_StoreYieldsRegister : State.reset.pend = none := rfl

theorem witness_WaitReadsUntilIdle : State.reset.pend = none ∧
    (inFlight (.encBlock 0) keyed).pend = some (.encBlock 0) := by
  decide

theorem witness_OnlyExpandKeyReadsKey :
    step (inFlight (.lin 0) State.reset) = .next { State.reset with doutA := lmap State.reset.dinA, done := true } ∧
    (Spec.engineMoves (inFlight (.lin 0) State.reset) → ∀ a, (inFlight (.lin 0) State.reset).pend ≠ some (.expandKey a)) :=
  ⟨rfl, fun _ a h => by cases h⟩

theorem witness_ScheduleChangesOnlyByExpandKey :
    seen State.kv (inFlight (.expandKey 0) State.reset) = some true ∧ seen State.kv (facing [.reset] keyed) = some false ∧
    seen State.kv (inFlight (.nop 0) keyed) = some true := by
  decide +kernel

theorem witness_StreamOpensAndCloses :
    seen State.ctrv (inFlight (.ctrInit 0) State.reset) = some true ∧
    seen State.ctrv (inFlight (.ctrChunk 16) keyed) = some true ∧
    seen State.ctrv (inFlight (.ctrChunk 15) keyed) = some false ∧
    seen State.ctrv (inFlight (.expandKey 0) keyed) = some false ∧
    seen State.ctrv (facing [.reset] keyed) = some false ∧ seen State.ctrv (facing [.rd 0xF2] keyed) = some true ∧
    (facing [.reset] keyed).events = [.reset] ∧ Spec.engineMoves (inFlight (.ctrChunk 15) keyed) ∧
    (∀ rest, (facing [.rd 0xF2] keyed).events ≠ .reset :: rest) ∧ ¬ Spec.engineMoves (facing [.rd 0xF2] keyed) := by
  refine ⟨by decide +kernel, by decide +kernel, by decide +kernel, by decide +kernel, by decide +kernel, by decide +kernel,
    rfl, .inl rfl, ?_, ?_⟩ <;> simp [facing, Spec.engineMoves]

theorem witness_ResetGivesTheTable : (facing [.reset] (inFlight (.lin 0) keyed)).events = .reset :: [] := rfl

/-- An in-flight state that meets the invariant, and its step. -/
theorem witness_StepKeepsInvariant : (inFlight (.rcon 32) State.reset).Inv ∧
    step (inFlight (.rcon 32) State.reset) =
      .next { State.reset with arg := 32, done := true, doutA := roundConstant 32 } := by
  refine ⟨?_, rfl⟩
  constructor <;> simp [inFlight, State.reset, Instr.arg, Instr.wellFormed, needsKey]

theorem witness_GfAddCommand : State.reset.pend = none ∧ (inFlight (.gfAdd 0xFF) State.reset).pend = some (.gfAdd 0xFF) := by
  decide

theorem witness_GfMulCommand : State.reset.pend = none ∧ (inFlight (.gfMul 0xFF) State.reset).pend = some (.gfMul 0xFF) := by
  decide

theorem witness_BlkXorCommand : State.reset.pend = none ∧ (inFlight (.blkXor 0xFF) State.reset).pend = some (.blkXor 0xFF) ∧
    (head 5)[0] = (head 5)[0] ∧ (head 5)[15] = (head 6)[15] := by
  decide

theorem witness_SubCommand : State.reset.pend = none ∧ (inFlight (.sub 0xFF) State.reset).pend = some (.sub 0xFF) ∧
    (head 5)[1] = (head 5)[15] := by
  decide

theorem witness_SubInvCommand : State.reset.pend = none ∧ (inFlight (.subInv 0xFF) State.reset).pend = some (.subInv 0xFF) := by
  decide

theorem witness_LcombCommand : State.reset.pend = none ∧ (inFlight (.lcomb 0xFF) State.reset).pend = some (.lcomb 0xFF) := by
  decide

theorem witness_RstepCommand : State.reset.pend = none ∧ (inFlight (.rstep 0xFF) State.reset).pend = some (.rstep 0xFF) := by
  decide

theorem witness_RstepInvCommand : State.reset.pend = none ∧ (inFlight (.rstepInv 0xFF) State.reset).pend = some (.rstepInv 0xFF) := by
  decide

theorem witness_LinCommand : State.reset.pend = none ∧ (inFlight (.lin 0xFF) State.reset).pend = some (.lin 0xFF) := by
  decide

theorem witness_LinInvCommand : State.reset.pend = none ∧ (inFlight (.linInv 0xFF) State.reset).pend = some (.linInv 0xFF) := by
  decide

theorem witness_FeistelCommand : State.reset.pend = none ∧ (inFlight (.feistel 0xFF) State.reset).pend = some (.feistel 0xFF) := by
  decide

theorem witness_ExpandKeyCommand : State.reset.pend = none ∧ (inFlight (.expandKey 0xFF) State.reset).pend = some (.expandKey 0xFF) := by
  decide

theorem witness_CtrInitCommand : State.reset.pend = none ∧ (inFlight (.ctrInit 0xFF) State.reset).pend = some (.ctrInit 0xFF) ∧
    (inFlight (.expandKey 0) keyed).pend = some (.expandKey 0) := by
  decide

theorem witness_NopCommand : State.reset.pend = none ∧ (inFlight (.nop 0xFF) State.reset).pend = some (.nop 0xFF) := by
  decide

theorem witness_RconCommand : State.reset.pend = none ∧
    (∀ a ∈ [(1 : Byte), 32], (inFlight (.rcon a) State.reset).pend = some (.rcon a) ∧ 1 ≤ a.toNat ∧ a.toNat ≤ 32) ∧
    (∀ a ∈ [(0 : Byte), 33, 255], a.toNat < 1 ∨ a.toNat > 32) := by
  decide

theorem witness_EncBlockCommand : keyed.pend = none ∧ keyed.kv = true ∧ State.reset.pend = none ∧ State.reset.kv = false ∧
    (inFlight (.encBlock 0) keyed).pend = some (.encBlock 0) := by
  decide

theorem witness_DecBlockCommand : keyed.pend = none ∧ keyed.kv = true ∧ State.reset.pend = none ∧ State.reset.kv = false ∧
    (inFlight (.decBlock 0) keyed).pend = some (.decBlock 0) := by
  decide

theorem witness_CtrChunkCommand :
    (∀ a ∈ [(1 : Byte), 16], keyed.pend = none ∧ keyed.kv = true ∧ keyed.ctrv = true ∧ 1 ≤ a.toNat ∧ a.toNat ≤ 16 ∧
      (inFlight (.ctrChunk a) keyed).pend = some (.ctrChunk a)) ∧
    (∀ a ∈ [(0 : Byte), 17, 255], a.toNat < 1 ∨ a.toNat > 16) ∧ State.reset.kv = false ∧
    (let s : State := { keyed with ctrv := false }; s.pend = none ∧ s.kv = true ∧ s.ctrv = false) := by
  decide

theorem witness_GfFieldLaws : (0x02 : Byte) ≠ 0 ∧ gfMul 0x02 0xe1 = 1 ∧ (1 : Byte) ≠ 0 ∧ (0xFF : Byte) ≠ 0 := by
  decide +kernel

/-- The first and the last lane that a feedback step shifts. -/
theorem witness_FeedbackStepIsInverted : 0 < 15 ∧ 14 < 15 := by
  decide

theorem witness_RoundConstantsAreTheTable : (1 ≤ 1 ∧ 1 ≤ 32) ∧ (1 ≤ 32 ∧ 32 ≤ 32) := by decide

/-- The first and the last round, and the first and the last pair of round keys. -/
theorem witness_RoundsRunInOrder : 0 < 9 ∧ 8 < 9 := by decide

theorem witness_ScheduleRunsInOrder : (0 < 16 ∧ 15 < 16) ∧ (0 < 32 ∧ 31 < 32) ∧ (0 < 5 ∧ 4 < 5) := by decide

theorem witness_StreamIsItsOwnInverse : Spec.partitioned [(16, head 1), (16, head 2), (1, head 3)] = true ∧
    Spec.partitioned [(16, head 1)] = true ∧ Spec.partitioned [] = true ∧
    keyed.pend = none ∧ keyed.kv = true ∧ keyed.rk = keyed.rk ∧ keyed.iv = keyed.iv := by
  decide

end Sys2Proof.Tests
end

section
/-! Proofs of the statements about the state of the block (10_state.md): what one move can do, the invariant, the frame
of RK, KV and CTRV, the secrecy of KEY and RK, and reset. -/

namespace Sys2Proof.Machine

/-! ## Commands: what decoding, passing checks and an effect say -/

/-- ARG never selects a command: the decoder carries it along (30_encoding.md R101, R107). -/
theorem arg_of_decodeOp {op arg : Byte} {i : Instr} (h : decodeOp op arg = some i) : i.arg = arg := by
  unfold decodeOp at h
  split at h <;> cases h <;> rfl

/-- A command that passes its checks has its operand byte in the legal range (30_encoding.md R103). -/
theorem wellFormed_of_checks_pass {i : Instr} {s : State} (h : firstFailure (checksOf i s) = none) :
    i.wellFormed = true := by
  rw [firstFailure_eq_none_iff] at h
  cases i with
  | rcon a => exact h (indexCheck a) (.head _)
  | ctrChunk a => exact h (lengthCheck a) (.tail _ (.tail _ (.head _)))
  | _ => rfl

/-- A command that needs a key passes its checks only with KV = 1 (60_exceptions.md R283). -/
theorem keyed_of_checks_pass {i : Instr} {s : State} (h : firstFailure (checksOf i s) = none)
    (hn : needsKey i = true) : s.kv = true := by
  rw [firstFailure_eq_none_iff] at h
  cases i with
  | encBlock a => exact h (keyCheck s) (.head _)
  | decBlock a => exact h (keyCheck s) (.head _)
  | ctrChunk a => exact h (keyCheck s) (.head _)
  | _ => cases hn

/-- A chunk passes its checks only with CTRV = 1 (46_counter.md R266). -/
theorem streamed_of_checks_pass {n : Byte} {s : State} (h : firstFailure (checksOf (.ctrChunk n) s) = none) :
    s.ctrv = true :=
  (firstFailure_eq_none_iff _).mp h (counterCheck s) (.tail _ (.head _))

/-- An effect leaves RK and KV, or is EXPAND_KEY's (44_keyschedule.md R227). -/
theorem effectOf_schedule (i : Instr) (s : State) :
    ((effectOf i s).rk = s.rk ∧ (effectOf i s).kv = s.kv) ∨
      ((∃ a, i = .expandKey a) ∧ (effectOf i s).rk = expand s.key ∧ (effectOf i s).kv = true) := by
  cases i with
  | expandKey a => exact .inr ⟨⟨a, rfl⟩, by simp [effectOf], by simp [effectOf]⟩
  | _ => exact .inl (by simp [effectOf])

/-- An effect other than those of CTR_INIT, CTR_CHUNK and EXPAND_KEY leaves CTRV (10_state.md R42). -/
theorem effectOf_ctrv {i : Instr} (s : State) (hinit : ∀ a, i ≠ .ctrInit a) (hchunk : ∀ n, i ≠ .ctrChunk n)
    (hkey : ∀ a, i ≠ .expandKey a) : (effectOf i s).ctrv = s.ctrv := by
  cases i with
  | ctrInit a => exact absurd rfl (hinit a)
  | ctrChunk n => exact absurd rfl (hchunk n)
  | expandKey a => exact absurd rfl (hkey a)
  | _ => simp [effectOf]

/-! ## What one move can do -/

/-- Everything a move of the host other than a reset can make of the block's state: a read or a turn of `wait`, BUSY_ERR
recorded, a store, a write of STATUS, a rejection or an acceptance (20_memory.md R74, R75; 40_sequencer.md R130). -/
inductive HostMove (s : State) : State → Prop where
  | observe (es : List Event) (bs : List Byte) (n : Nat) : HostMove s { s with events := es, reads := bs, draws := n }
  | drop (busy : s.pend ≠ none) : HostMove s (s.recordError .busyErr)
  | store (idle : s.pend = none) (da db dc : Block) (ky : KeyBytes) (iv : IvBytes) (ar : Byte) :
      HostMove s { s with dinA := da, dinB := db, dinC := dc, key := ky, iv := iv, arg := ar }
  | status (v : Byte) : HostMove s (s.statusWrite v)
  | reject (idle : s.pend = none) (e : ErrorKind) : HostMove s (s.clearDone.reject e)
  | accept (idle : s.pend = none) {op : Byte} {i : Instr} (decoded : decodeOp op s.arg = some i)
      (passed : firstFailure (checksOf i s) = none) : HostMove s (s.clearDone.accept i)

/-- An issue is a move of the host. -/
theorem hostMove_of_issue {op : Byte} {s t : State} (h : issue op s = .next t) : HostMove s t := by
  obtain ⟨j, hp, rfl⟩ | ⟨hp, -, rfl⟩ | ⟨i, e, hp, -, -, rfl⟩ | ⟨i, hp, hd, hc, rfl⟩ := issue_cases h
  · exact .drop (by simp [hp])
  · exact .reject hp _
  · exact .reject hp e
  · exact .accept hp hd hc

/-- A write on the bus is a move of the host. -/
theorem hostMove_of_busWrite {a v : Byte} {s t : State} (h : busWrite a v s = .next t) : HostMove s t := by
  obtain hl | ⟨hb, rfl⟩ | ⟨hb, da, db, dc, ky, iv, ar, rfl⟩ | ⟨-, rfl⟩ | rfl := busWrite_cases h
  · exact hostMove_of_issue (op := v) (by simpa [busWrite, hl] using h)
  · exact .drop (by simpa [State.busy, Option.isSome_iff_ne_none] using hb)
  · exact .store (by simpa [State.busy] using hb) da db dc ky iv ar
  · exact .status v
  · exact .observe t.events t.reads t.draws

/-- Every event but a reset and the engine's is a move of the host. -/
theorem hostMove_of_takeEvent {e : Event} {s t : State} (hr : e ≠ .reset) (he : e ≠ .engine)
    (h : takeEvent e s = .next t) : HostMove s t := by
  cases e with
  | rd a =>
    obtain ⟨b, n, hs⟩ := busRead_eq a s
    cases h
    exact hs ▸ .observe s.events (s.reads ++ [b]) n
  | wr a v => exact hostMove_of_busWrite h
  | poll turns =>
    obtain ⟨b, es, hs⟩ := waitTurn_eq turns s
    cases h
    exact hs ▸ .observe es (s.reads ++ [b]) s.draws
  | reset => exact absurd rfl hr
  | engine => exact absurd rfl he

/-- The agent that moves, and what its move makes of the state: a reset, the engine's turn, or a move of the host
(10_state.md R30). -/
theorem step_agents {s t : State} (h : step s = .next t) :
    (∃ rest, s.events = .reset :: rest ∧ t = (s.withEvents rest).assertReset) ∨
    (Spec.engineMoves s ∧ ∃ rest, (s.pend = none ∧ t = s.withEvents rest) ∨
      ∃ i, s.pend = some i ∧ t = (effectOf i (s.withEvents rest)).finish) ∨
    (∃ e rest, s.events = e :: rest ∧ e ≠ .reset ∧ e ≠ .engine ∧ HostMove (s.withEvents rest) t) := by
  obtain ⟨he, ht⟩ | ⟨e, rest, he, ht⟩ := step_cases h
  · have hs : s.withEvents [] = s := by rw [← he]; rfl
    exact .inr (.inl ⟨.inl he, [], by rw [hs]; exact engine_cases ht⟩)
  · by_cases hr : e = .reset
    · subst hr
      cases ht
      exact .inl ⟨rest, he, rfl⟩
    by_cases hg : e = .engine
    · subst hg
      exact .inr (.inl ⟨.inr ⟨rest, he⟩, rest, engine_cases ht⟩)
    exact .inr (.inr ⟨e, rest, he, hr, hg, hostMove_of_takeEvent hr hg ht⟩)

/-- The engine does not move where another event is at the head. -/
theorem not_engineMoves_of_cons {e : Event} {rest : List Event} {s : State} (h : s.events = e :: rest)
    (he : e ≠ .engine) : ¬ Spec.engineMoves s := by
  simp [Spec.engineMoves, h, he]

/-- A move of the host leaves RK, KV and CTRV (10_state.md R41, R42). -/
theorem HostMove.schedule_frame {s t : State} (h : HostMove s t) : t.rk = s.rk ∧ t.kv = s.kv ∧ t.ctrv = s.ctrv := by
  cases h <;> exact ⟨rfl, rfl, rfl⟩

/-! ## The invariant -/

/-- The state after reset meets the invariant, whatever the model's own fields hold. -/
theorem inv_assertReset (s : State) : s.assertReset.Inv where
  errcodeClear _ := rfl
  errcodeSet h := nomatch h
  busyNotDone h := absurd rfl h
  argFrozen _ h := nomatch h
  pendLegal _ h := nomatch h
  pendKeyed _ h := nomatch h
  pendStreamed _ h := nomatch h
  keyValid h := nomatch h
  keyAbsent _ := rfl

/-- The part of the invariant about ERR and ERRCODE: an error recorded from a state that has it leaves one of the codes
1 to 6 (60_exceptions.md R281, R282). -/
theorem State.Inv.recordError_errcode_range {s : State} (h : s.Inv) (e : ErrorKind) :
    1 ≤ (s.recordError e).errcode.toNat ∧ (s.recordError e).errcode.toNat ≤ 6 := by
  cases herr : s.err with
  | true => simpa [herr] using h.errcodeSet herr
  | false => simpa [herr] using code_range e

/-- With no command in flight, the invariant is its part about ERR and ERRCODE and its part about RK and KV. -/
theorem inv_of_idle {s : State} (hp : s.pend = none) (hclear : s.err = false → s.errcode = 0)
    (hset : s.err = true → 1 ≤ s.errcode.toNat ∧ s.errcode.toNat ≤ 6)
    (hvalid : s.kv = true → ∃ key, s.rk = expand key) (habsent : s.kv = false → s.rk = State.reset.rk) : s.Inv where
  errcodeClear := hclear
  errcodeSet := hset
  busyNotDone h := absurd hp h
  argFrozen _ h := by simp [hp] at h
  pendLegal _ h := by simp [hp] at h
  pendKeyed _ h := by simp [hp] at h
  pendStreamed _ h := by simp [hp] at h
  keyValid := hvalid
  keyAbsent := habsent

/-- The model's own fields take no part in the invariant. -/
theorem State.Inv.observe {s : State} (h : s.Inv) (es : List Event) (bs : List Byte) (n : Nat) :
    State.Inv { s with events := es, reads := bs, draws := n } :=
  { h with }

theorem State.Inv.recordError {s : State} (h : s.Inv) (e : ErrorKind) : (s.recordError e).Inv :=
  { h with
    errcodeClear := fun he => nomatch he
    errcodeSet := fun _ => h.recordError_errcode_range e }

/-- A write of STATUS clears ERRCODE exactly when it clears ERR (10_state.md R38). -/
theorem State.Inv.statusWrite {s : State} (h : s.Inv) (v : Byte) : (s.statusWrite v).Inv :=
  { h with
    errcodeClear := fun he => by
      rw [State.statusWrite_err] at he
      rw [State.statusWrite_errcode]
      split
      case isTrue => rfl
      case isFalse hv => exact h.errcodeClear (by rwa [Bool.eq_false_iff.mpr hv, Bool.not_false, Bool.and_true] at he)
    errcodeSet := fun he => by
      rw [State.statusWrite_err, Bool.and_eq_true, Bool.not_eq_true'] at he
      obtain ⟨herr, hv⟩ := he
      rw [State.statusWrite_errcode, hv]
      exact h.errcodeSet herr
    busyNotDone := fun hp => by simp [h.busyNotDone hp] }

/-- An accepted command has passed its checks with ARG as it stands (40_sequencer.md R130). -/
theorem State.Inv.accept {op : Byte} {i : Instr} {s : State} (h : s.Inv) (hd : decodeOp op s.arg = some i)
    (hc : firstFailure (checksOf i s) = none) : (s.clearDone.accept i).Inv :=
  { h with
    busyNotDone := fun _ => rfl
    argFrozen := fun _ hj => Option.some.inj hj ▸ arg_of_decodeOp hd
    pendLegal := fun _ hj => Option.some.inj hj ▸ wellFormed_of_checks_pass hc
    pendKeyed := fun _ hj => Option.some.inj hj ▸ keyed_of_checks_pass hc
    pendStreamed := fun _ hj => streamed_of_checks_pass (Option.some.inj hj ▸ hc) }

/-- A completion writes RK and KV together or not at all (10_state.md R41; 44_keyschedule.md R227). -/
theorem State.Inv.complete {s : State} (h : s.Inv) (i : Instr) : (effectOf i s).finish.Inv := by
  obtain ⟨-, -, -, -, -, -, herr, hcode, -⟩ := effectOf_frame i s
  refine inv_of_idle rfl ?_ ?_ ?_ ?_
  · simpa [herr, hcode] using h.errcodeClear
  · simpa [herr, hcode] using h.errcodeSet
  · obtain ⟨hrk, hkv⟩ | ⟨-, hrk, -⟩ := effectOf_schedule i s
    · simpa [hrk, hkv] using h.keyValid
    · exact fun _ => ⟨s.key, hrk⟩
  · obtain ⟨hrk, hkv⟩ | ⟨-, -, hkv⟩ := effectOf_schedule i s
    · simpa [hrk, hkv] using h.keyAbsent
    · simp [hkv]

/-- A move of the host keeps the invariant. -/
theorem State.Inv.hostMove {s t : State} (h : s.Inv) (hm : HostMove s t) : t.Inv := by
  cases hm with
  | observe es bs n => exact h.observe es bs n
  | drop _ => exact h.recordError .busyErr
  | store idle _ _ _ _ _ _ => exact inv_of_idle idle h.errcodeClear h.errcodeSet h.keyValid h.keyAbsent
  | status v => exact h.statusWrite v
  | reject idle e =>
    exact inv_of_idle idle (fun he => nomatch he) (fun _ => h.recordError_errcode_range e) h.keyValid h.keyAbsent
  | accept _ decoded passed => exact h.accept decoded passed

/-- Settles O26: nothing is in flight, ERR and KV are 0, and ERRCODE and RK are zero. -/
theorem invariantHoldsAtReset : Obligations.InvariantHoldsAtReset :=
  inv_assertReset State.reset

/-- Settles O27, agent by agent: a reset, a completion or an idle turn of the engine, and each move of the host keep the
invariant. -/
theorem stepKeepsInvariant : Obligations.StepKeepsInvariant := by
  intro s t hinv h
  obtain ⟨rest, -, rfl⟩ | ⟨-, rest, ⟨-, rfl⟩ | ⟨i, -, rfl⟩⟩ | ⟨e, rest, -, -, -, hm⟩ := step_agents h
  · exact inv_assertReset _
  · exact hinv.observe rest s.reads s.draws
  · exact State.Inv.complete (hinv.observe rest s.reads s.draws) i
  · exact State.Inv.hostMove (hinv.observe rest s.reads s.draws) hm

/-! ## The round keys and the stream -/

/-- Settles O23, agent by agent. -/
theorem scheduleChangesOnlyByExpandKey : Obligations.ScheduleChangesOnlyByExpandKey := by
  intro s t h
  obtain ⟨rest, he, rfl⟩ | ⟨hm, rest, ⟨-, rfl⟩ | ⟨i, hp, rfl⟩⟩ | ⟨e, rest, -, -, -, hm⟩ := step_agents h
  · exact .inr (.inr ⟨⟨rest, he⟩, rfl, rfl⟩)
  · exact .inl ⟨rfl, rfl⟩
  · obtain hkept | ⟨⟨a, rfl⟩, hrk, hkv⟩ := effectOf_schedule i (s.withEvents rest)
    · exact .inl hkept
    · exact .inr (.inl ⟨hm, ⟨a, hp⟩, hrk, hkv⟩)
  · obtain ⟨hrk, hkv, -⟩ := hm.schedule_frame
    exact .inl ⟨hrk, hkv⟩

/-- Settles O24, agent by agent: each clause speaks of one agent, and is empty where another one moves. -/
theorem streamOpensAndCloses : Obligations.StreamOpensAndCloses := by
  intro s t h
  obtain ⟨rest, he, rfl⟩ | ⟨hm, rest, hturn⟩ | ⟨e, rest, he, hr, hg, hmove⟩ := step_agents h
  · have hn := not_engineMoves_of_cons he (by simp)
    exact ⟨fun _ _ => rfl, fun _ hm => absurd hm hn, fun _ hm => absurd hm hn, fun _ hm => absurd hm hn,
      fun hnr => absurd he (hnr rest)⟩
  · refine ⟨fun _ he => absurd hm (not_engineMoves_of_cons he (by simp)), ?_⟩
    obtain ⟨hp, rfl⟩ | ⟨i, hp, rfl⟩ := hturn
    · simp [hp]
    · simp only [hp, ne_eq, Option.some.injEq]
      refine ⟨?init, ?chunk, ?expand, fun _ hothers => ?others⟩
      case init => rintro a - rfl; simp [effectOf]
      case chunk => rintro n - rfl; by_cases hn : n.toNat < 16 <;> simp [effectOf, argValue, hn]
      case expand => rintro a - rfl; simp [effectOf]
      case others =>
        obtain ⟨hinit, hchunk, hkey⟩ := hothers hm
        exact effectOf_ctrv (s.withEvents rest) hinit hchunk hkey
  · have hn := not_engineMoves_of_cons he hg
    obtain ⟨-, -, hctrv⟩ := hmove.schedule_frame
    exact ⟨fun _ he' => absurd (List.cons.inj (he.symm.trans he')).1 hr, fun _ hm => absurd hm hn,
      fun _ hm => absurd hm hn, fun _ hm => absurd hm hn, fun _ _ => hctrv⟩

/-! ## The secrecy of KEY and RK -/

/-- What a register reads as depends on neither KEY nor RK (10_state.md R33, R40). -/
theorem readReg_key_rk (r : WindowReg) (s : State) (key : KeyBytes) (rk : RoundKeys) :
    readReg r { s with key := key, rk := rk } = readReg r s := by
  cases r <;> rfl

/-- Whether a read gives a free byte depends on neither KEY nor RK. -/
theorem readsFree_key_rk (r : WindowReg) (s : State) (key : KeyBytes) (rk : RoundKeys) :
    readsFree r { s with key := key, rk := rk } = readsFree r s := by
  cases r <;> rfl

/-- A read neither shows nor changes KEY and RK. -/
theorem busRead_key_rk (a : Byte) (s : State) (key : KeyBytes) (rk : RoundKeys) :
    State.busRead a { s with key := key, rk := rk } = { s.busRead a with key := key, rk := rk } := by
  unfold State.busRead
  rw [readsFree_key_rk, readReg_key_rk]
  split <;> rfl

/-- Settles O21: a read does not depend on KEY and RK. -/
theorem keyAndScheduleCannotBeRead : Obligations.KeyAndScheduleCannotBeRead := by
  intro s key rk a
  rw [busRead_key_rk]

/-- The state with another KEY. -/
def State.withKey (key : KeyBytes) (s : State) : State := { s with key := key }

theorem busRead_withKey (a : Byte) (s : State) (key : KeyBytes) :
    (s.withKey key).busRead a = (s.busRead a).withKey key := by
  have h : (s.withKey key).busRead a = { s.busRead a with key := key, rk := s.rk } := busRead_key_rk a s key s.rk
  obtain ⟨b, n, hs⟩ := busRead_eq a s
  rw [h, hs]
  rfl

theorem waitTurn_withKey (turns : Nat) (s : State) (key : KeyBytes) :
    waitTurn turns (s.withKey key) = (waitTurn turns s).withKey key := by
  have hv : statusValue (s.withKey key) = statusValue s := readReg_key_rk _ s key s.rk
  cases hb : s.busy with
  | false => rw [waitTurn_idle hb, waitTurn_idle (s := s.withKey key) hb, hv]; rfl
  | true => rw [waitTurn_busy hb, waitTurn_busy (s := s.withKey key) hb, hv]; rfl

/-- No command's check looks at KEY (60_exceptions.md R283). -/
theorem checksOf_withKey (i : Instr) (s : State) (key : KeyBytes) : checksOf i (s.withKey key) = checksOf i s := by
  cases i <;> rfl

/-- No effect but EXPAND_KEY's uses KEY (10_state.md R33). -/
theorem effectOf_withKey {i : Instr} (s : State) (key : KeyBytes) (h : ∀ a, i ≠ .expandKey a) :
    effectOf i (s.withKey key) = (effectOf i s).withKey key := by
  cases i with
  | expandKey a => exact absurd rfl (h a)
  | _ => rfl

/-- An issue does not use KEY. -/
theorem issue_withKey {op : Byte} {s t : State} (key : KeyBytes) (h : issue op s = .next t) :
    issue op (s.withKey key) = .next (t.withKey key) := by
  cases hp : s.pend with
  | some j =>
    rw [issue_busy (State.busy_of_some hp)] at h
    cases h
    exact issue_busy (s := s.withKey key) (State.busy_of_some hp)
  | none =>
    cases hd : decodeOp op s.arg with
    | none =>
      rw [issue_illegal hp hd] at h
      cases h
      exact issue_illegal (s := s.withKey key) hp hd
    | some i =>
      have hc : checksOf i (s.withKey key).clearDone = checksOf i s.clearDone := checksOf_withKey i s.clearDone key
      rw [issue_legal hp hd, exec_issues i (s := s.clearDone) hp] at h
      rw [issue_legal (s := s.withKey key) hp hd, exec_issues i (s := (s.withKey key).clearDone) hp, hc]
      cases hf : firstFailure (checksOf i s.clearDone) <;> (rw [hf] at h; cases h; rfl)

/-- A store in two states that differ in KEY alone leaves states that differ in KEY alone. -/
theorem guardedStore_withKey {stored stored' s : State} {key : KeyBytes}
    (h : ∃ key', stored' = stored.withKey key') :
    ∃ key', (.next (State.guardedStore stored' (s.withKey key)) : Host.Outcome State Fault Refusal) =
      .next ((State.guardedStore stored s).withKey key') := by
  cases hb : s.busy with
  | true => exact ⟨key, by rw [guardedStore_busy hb, guardedStore_busy (s := s.withKey key) hb]; rfl⟩
  | false =>
    obtain ⟨key', rfl⟩ := h
    exact ⟨key', by rw [guardedStore_idle hb, guardedStore_idle (s := s.withKey key) hb]⟩

/-- A write on the bus does not use KEY. -/
theorem busWrite_withKey {a v : Byte} {s t : State} (key : KeyBytes) (h : busWrite a v s = .next t) :
    ∃ key', busWrite a v (s.withKey key) = .next (t.withKey key') := by
  unfold busWrite at h ⊢
  cases hl : locate a with simp only [hl] at h ⊢
  | dinA k | dinB k | dinC k | key k | iv k | arg => cases h; exact guardedStore_withKey ⟨_, rfl⟩
  | cmd => exact ⟨key, issue_withKey key h⟩
  | status | doutA k | doutB k | ctr k | errcode | reserved => cases h; exact ⟨key, rfl⟩

/-- The engine's turn does not use KEY unless EXPAND_KEY is in flight. -/
theorem engineTurn_withKey {s t : State} (key : KeyBytes) (hk : ∀ a, s.pend ≠ some (.expandKey a))
    (h : engineTurn s = .next t) : engineTurn (s.withKey key) = .next (t.withKey key) := by
  cases hp : s.pend with
  | none =>
    rw [engineTurn_none hp] at h
    cases h
    exact engineTurn_none (s := s.withKey key) hp
  | some i =>
    have hi : ∀ a, i ≠ .expandKey a := fun a hia => hk a (by rw [hp, hia])
    rw [engineTurn_some hp, exec_completes hp] at h
    cases h
    rw [engineTurn_some (s := s.withKey key) hp, exec_completes (s := s.withKey key) hp, effectOf_withKey s key hi]
    rfl

/-- No event but EXPAND_KEY's completion uses KEY (10_state.md R33). -/
theorem takeEvent_withKey {e : Event} {s t : State} (key : KeyBytes)
    (hk : e = .engine → ∀ a, s.pend ≠ some (.expandKey a)) (h : takeEvent e s = .next t) :
    ∃ key', takeEvent e (s.withKey key) = .next (t.withKey key') := by
  cases e with
  | rd a => cases h; exact ⟨key, congrArg _ (busRead_withKey a s key)⟩
  | wr a v => exact busWrite_withKey key h
  | poll turns => cases h; exact ⟨key, congrArg _ (waitTurn_withKey turns s key)⟩
  | reset => cases h; exact ⟨State.reset.key, rfl⟩
  | engine => exact ⟨key, engineTurn_withKey key (hk rfl) h⟩

/-- Settles O22: the same event is taken in both states, and no event but EXPAND_KEY's completion uses KEY. -/
theorem onlyExpandKeyReadsKey : Obligations.OnlyExpandKeyReadsKey := by
  intro s t key h hk
  obtain ⟨he, ht⟩ | ⟨e, rest, he, ht⟩ := step_cases h
  · obtain ⟨key', ht'⟩ := takeEvent_withKey key (fun _ => hk (.inl he)) ht
    exact ⟨key', (step_nil (s := s.withKey key) he).trans ht'⟩
  · have hke : e = .engine → ∀ a, s.pend ≠ some (.expandKey a) := fun hg => hk (.inr ⟨rest, hg ▸ he⟩)
    obtain ⟨key', ht'⟩ := takeEvent_withKey (s := s.withEvents rest) key hke ht
    exact ⟨key', (step_cons (s := s.withKey key) he).trans ht'⟩

/-! ## Writes of STATUS, and reset -/

/-- A flag cleared by a bit, as the model and as the statements write it. -/
theorem and_not_eq_ite (flag bit : Bool) : (flag && !bit) = if bit = true then false else flag := by
  cases bit <;> simp

/-- Settles O13: a write at 0xF2 is the STATUS write of R75, which clears by the two bits. -/
theorem statusWriteClearsErrors : Obligations.StatusWriteClearsErrors := by
  intro s rest v he
  have hw : busWrite 0xF2 v (s.withEvents rest) = .next ((s.withEvents rest).statusWrite v) := by
    rw [busWrite, locate_status]
  rw [step_cons he, takeEvent, hw, State.statusWrite]
  simp only [and_not_eq_ite, State.withEvents]

/-- Settles O25: the registers are written out by `State.reset`, and a reset event keeps the model's own fields alone. -/
theorem resetGivesTheTable : Obligations.ResetGivesTheTable := by
  unfold Obligations.ResetGivesTheTable
  intro tabled
  have hstatus : State.reset.statusByte = 0 := by decide
  have htab : ∀ (es : List Event) (bs : List Byte) (n : Nat),
      tabled { State.reset with events := es, reads := bs, draws := n } := fun _ _ _ =>
    ⟨rfl, rfl, rfl, rfl, rfl, rfl, rfl, rfl, rfl, hstatus, rfl, rfl, rfl, rfl, rfl, rfl, rfl⟩
  exact ⟨htab [] [] 0, fun s rest he => ⟨_, step_cons he, htab rest s.reads s.draws, rfl⟩⟩

end Sys2Proof.Machine
end

section
/-! Proofs of the statements about single reads and writes of the register window (20_memory.md): what the step does at
the register an address names, and which addresses name which. -/

namespace Sys2Proof.Machine

/-! ## Reads -/

/-- BUSY is a command in flight (10_state.md R43). -/
theorem State.busy_iff {s : State} : s.busy = true ↔ s.pend ≠ none :=
  Option.isSome_iff_ne_none

/-- Whether a read gives a free byte does not depend on the events to come. -/
theorem readsFree_withEvents (w : WindowReg) (rest : List Event) (s : State) :
    readsFree w (s.withEvents rest) = readsFree w s := by
  cases w <;> rfl

/-- A read that is no free draw returns the byte of the register its address names, and changes no register
(20_memory.md R74). -/
theorem step_rd_register {s : State} {rest : List Event} {a : Byte} {w : WindowReg} (he : s.events = .rd a :: rest)
    (hl : locate a = w) (hf : readsFree w s = false) :
    step s = .next { s with events := rest, reads := s.reads ++ [readReg w s] } := by
  have hr : readReg w (s.withEvents rest) = readReg w s := readReg_reads w s rest s.reads
  rw [step_cons he, takeEvent, State.busRead, hl, readsFree_withEvents, hf, hr]
  rfl

/-- A free draw returns the next free byte, and changes no register (20_memory.md R74, R89). -/
theorem step_rd_free {s : State} {rest : List Event} {a : Byte} (he : s.events = .rd a :: rest)
    (hf : readsFree (locate a) s = true) :
    step s = .next { s with
      events := rest, reads := s.reads ++ [Config.anyByte s.draws], draws := s.draws + 1 } := by
  rw [step_cons he, takeEvent, State.busRead, readsFree_withEvents, hf]
  rfl

/-- The addresses of DOUT_A, DOUT_B and CTR are free draws while BUSY (20_memory.md R74, R89). -/
theorem readsFree_of_busy {s : State} {a : Byte} (hb : s.busy = true)
    (ha : (0x30 ≤ a.toNat ∧ a.toNat ≤ 0x4F) ∨ (0x80 ≤ a.toNat ∧ a.toNat ≤ 0x8F)) :
    readsFree (locate a) s = true := by
  have hranges : (0x30 ≤ a.toNat ∧ a.toNat < 0x40) ∨ (0x40 ≤ a.toNat ∧ a.toNat < 0x50) ∨
      (0x80 ≤ a.toNat ∧ a.toNat < 0x90) := by omega
  obtain ⟨hlo, hhi⟩ | ⟨hlo, hhi⟩ | ⟨hlo, hhi⟩ := hranges
  · rw [locate_doutA a ⟨a.toNat - 0x30, by omega⟩ (Nat.add_sub_of_le hlo).symm]; exact hb
  · rw [locate_doutB a ⟨a.toNat - 0x40, by omega⟩ (Nat.add_sub_of_le hlo).symm]; exact hb
  · rw [locate_ctr a ⟨a.toNat - 0x80, by omega⟩ (Nat.add_sub_of_le hlo).symm]; exact hb

/-- The byte STATUS reads as, as a number (10_state.md R38). -/
theorem statusByte_eq_ofNat (s : State) : s.statusByte = BitVec.ofNat 8
    (16 * s.ctrv.toNat + 8 * s.kv.toNat + 4 * s.err.toNat + 2 * s.done.toNat + s.pend.isSome.toNat) := by
  have h : ∀ c k e d b : Bool,
      flagBit c 4 ||| flagBit k 3 ||| flagBit e 2 ||| flagBit d 1 ||| flagBit b 0 =
        BitVec.ofNat 8 (16 * c.toNat + 8 * k.toNat + 4 * e.toNat + 2 * d.toNat + b.toNat) := by
    decide
  exact h s.ctrv s.kv s.err s.done s.pend.isSome

/-- Settles O14, register by register of the address map. -/
theorem hostReadReturnsRegister : Obligations.HostReadReturnsRegister := by
  intro s rest a he
  refine ⟨?dinA, ?dinB, ?dinC, ?doutA, ?doutB, ?key, ?iv, ?ctr, ?cmd, ?arg, ?status, ?errcode, ?reserved, ?free⟩
  case dinA => exact fun k h ha => step_rd_register he (locate_dinA a ⟨k, h⟩ (by simpa using ha)) rfl
  case dinB => exact fun k h ha => step_rd_register he (locate_dinB a ⟨k, h⟩ ha) rfl
  case dinC => exact fun k h ha => step_rd_register he (locate_dinC a ⟨k, h⟩ ha) rfl
  case doutA => exact fun k h ha hp => step_rd_register he (locate_doutA a ⟨k, h⟩ ha) (State.busy_of_none hp)
  case doutB => exact fun k h ha hp => step_rd_register he (locate_doutB a ⟨k, h⟩ ha) (State.busy_of_none hp)
  case key =>
    exact fun hlo hhi => step_rd_register he
      (locate_key a ⟨a.toNat - 0x50, by omega⟩ (Nat.add_sub_of_le hlo).symm) rfl
  case iv => exact fun k h ha => step_rd_register he (locate_iv a ⟨k, h⟩ ha) rfl
  case ctr => exact fun k h ha hp => step_rd_register he (locate_ctr a ⟨k, h⟩ ha) (State.busy_of_none hp)
  case cmd =>
    intro ha
    obtain rfl : a = 0xF0 := BitVec.eq_of_toNat_eq ha
    exact step_rd_register he locate_cmd rfl
  case arg =>
    intro ha
    obtain rfl : a = 0xF1 := BitVec.eq_of_toNat_eq ha
    exact step_rd_register he locate_arg rfl
  case status =>
    intro ha
    obtain rfl : a = 0xF2 := BitVec.eq_of_toNat_eq ha
    rw [← statusByte_eq_ofNat]
    exact step_rd_register he locate_status rfl
  case errcode =>
    intro ha
    obtain rfl : a = 0xF3 := BitVec.eq_of_toNat_eq ha
    exact step_rd_register he locate_errcode rfl
  case reserved => exact fun ha => step_rd_register he (locate_reserved a ha) rfl
  case free => exact fun ha hp => ⟨_, step_rd_free he (readsFree_of_busy (State.busy_iff.mpr hp) ha)⟩

/-! ## Writes -/

/-- The input registers, whose bytes a write stores (20_memory.md R75). -/
def WindowReg.isInput : WindowReg → Bool
  | .dinA _ | .dinB _ | .dinC _ | .key _ | .iv _ | .arg => true
  | .doutA _ | .doutB _ | .ctr _ | .cmd | .status | .errcode | .reserved => false

/-- The state with a byte in its place in an input register; at another register, the state as it is. -/
def State.storeInput (w : WindowReg) (v : Byte) (s : State) : State :=
  match w with
  | .dinA k => { s with dinA := s.dinA.set k v }
  | .dinB k => { s with dinB := s.dinB.set k v }
  | .dinC k => { s with dinC := s.dinC.set k v }
  | .key k => { s with key := s.key.set k v }
  | .iv k => { s with iv := s.iv.set k v }
  | .arg => { s with arg := v }
  | .doutA _ | .doutB _ | .ctr _ | .cmd | .status | .errcode | .reserved => s

/-- The addresses of the input registers (20_memory.md R71). -/
theorem locate_isInput_iff : ∀ a : Byte, (locate a).isInput = true ↔
    a.toNat < 0x30 ∨ (0x50 ≤ a.toNat ∧ a.toNat ≤ 0x77) ∨ a.toNat = 0xF1 := by
  decide +kernel

/-- A write at an input register is a guarded store of its byte (20_memory.md R75). -/
theorem busWrite_input {a v : Byte} {s : State} (hw : (locate a).isInput = true) :
    busWrite a v s = .next (State.guardedStore (s.storeInput (locate a) v) s) := by
  unfold busWrite
  cases hl : locate a with
  | dinA k | dinB k | dinC k | key k | iv k | arg => rfl
  | doutA k | doutB k | ctr k | cmd | status | errcode | reserved => rw [hl] at hw; cases hw

/-- A write at a read-only or reserved address does nothing (20_memory.md R75). -/
theorem busWrite_ignored {a v : Byte} {s : State} (hw : (locate a).isInput = false) (hcmd : locate a ≠ .cmd)
    (hstatus : locate a ≠ .status) : busWrite a v s = .next s := by
  unfold busWrite
  cases hl : locate a with
  | dinA k | dinB k | dinC k | key k | iv k | arg => rw [hl] at hw; cases hw
  | cmd => exact absurd hl hcmd
  | status => exact absurd hl hstatus
  | doutA k | doutB k | ctr k | errcode | reserved => rfl

/-- With no command in flight a write at an input register stores its byte (20_memory.md R75). -/
theorem step_wr_idle {s : State} {rest : List Event} {a v : Byte} {w : WindowReg} (he : s.events = .wr a v :: rest)
    (hl : locate a = w) (hw : w.isInput = true) (hp : s.pend = none) :
    step s = .next ((s.withEvents rest).storeInput w v) := by
  subst hl
  have hb : (s.withEvents rest).busy = false := State.busy_of_none hp
  rw [step_cons he, takeEvent, busWrite_input hw, guardedStore_idle hb]

/-- With a command in flight a write at an input register only records BUSY_ERR (20_memory.md R75). -/
theorem step_wr_busy {s : State} {rest : List Event} {a v : Byte} (he : s.events = .wr a v :: rest)
    (hw : (locate a).isInput = true) (hp : s.pend ≠ none) :
    step s = .next ((s.withEvents rest).recordError .busyErr) := by
  have hb : (s.withEvents rest).busy = true := State.busy_iff.mpr hp
  rw [step_cons he, takeEvent, busWrite_input hw, guardedStore_busy hb]

/-- Settles O15, register by register of the address map. -/
theorem hostWriteStoresOrDrops : Obligations.HostWriteStoresOrDrops := by
  intro s rest a v he
  refine ⟨?dinA, ?dinB, ?dinC, ?key, ?iv, ?arg, ?busy, ?cmd, ?status, ?ignored⟩
  case dinA => exact fun k h ha hp => step_wr_idle he (locate_dinA a ⟨k, h⟩ (by simpa using ha)) rfl hp
  case dinB => exact fun k h ha hp => step_wr_idle he (locate_dinB a ⟨k, h⟩ ha) rfl hp
  case dinC => exact fun k h ha hp => step_wr_idle he (locate_dinC a ⟨k, h⟩ ha) rfl hp
  case key => exact fun k h ha hp => step_wr_idle he (locate_key a ⟨k, h⟩ ha) rfl hp
  case iv => exact fun k h ha hp => step_wr_idle he (locate_iv a ⟨k, h⟩ ha) rfl hp
  case arg =>
    intro ha hp
    obtain rfl : a = 0xF1 := BitVec.eq_of_toNat_eq ha
    exact step_wr_idle he locate_arg rfl hp
  case busy => exact fun ha hp => step_wr_busy he ((locate_isInput_iff a).mpr ha) hp
  case cmd =>
    intro ha
    obtain rfl : a = 0xF0 := BitVec.eq_of_toNat_eq ha
    rw [step_cons he, takeEvent, busWrite, locate_cmd]
    rfl
  case status =>
    intro ha
    obtain rfl : a = 0xF2 := BitVec.eq_of_toNat_eq ha
    exact statusWriteClearsErrors s rest v he
  case ignored =>
    intro ha
    have hinput : (locate a).isInput = false := by
      rw [← Bool.not_eq_true, locate_isInput_iff]
      omega
    have hcmd : locate a ≠ .cmd := fun hl => by
      obtain rfl := locate_eq_cmd hl
      exact absurd ha (by decide)
    have hstatus : locate a ≠ .status := fun hl => by
      obtain rfl := locate_eq_status hl
      exact absurd ha (by decide)
    rw [step_cons he, takeEvent, busWrite_ignored hinput hcmd hstatus]
    rfl

end Sys2Proof.Machine
end

section
/-! Proofs of the statements about the encoding (30_encoding.md): the command words, and the host's statements with the
runs of `ld`, `st` and `wait`. -/

namespace Sys2Proof.Machine

/-! ## Command words -/

/-- The opcode map read backwards, for every command (30_encoding.md R104). -/
theorem decodeOp_opcode : ∀ i : Instr, decodeOp (opcode i) i.arg = some i
  | .nop a => Laws.OpcodeMap.nop a
  | .gfAdd a => Laws.OpcodeMap.gfAdd a
  | .gfMul a => Laws.OpcodeMap.gfMul a
  | .blkXor a => Laws.OpcodeMap.blkXor a
  | .sub a => Laws.OpcodeMap.sub a
  | .subInv a => Laws.OpcodeMap.subInv a
  | .lcomb a => Laws.OpcodeMap.lcomb a
  | .rstep a => Laws.OpcodeMap.rstep a
  | .rstepInv a => Laws.OpcodeMap.rstepInv a
  | .lin a => Laws.OpcodeMap.lin a
  | .linInv a => Laws.OpcodeMap.linInv a
  | .rcon a => Laws.OpcodeMap.rcon a
  | .feistel a => Laws.OpcodeMap.feistel a
  | .expandKey a => Laws.OpcodeMap.expandKey a
  | .encBlock a => Laws.OpcodeMap.encBlock a
  | .decBlock a => Laws.OpcodeMap.decBlock a
  | .ctrInit a => Laws.OpcodeMap.ctrInit a
  | .ctrChunk a => Laws.OpcodeMap.ctrChunk a

/-- An OP that decodes is the opcode of the command it decodes to: no two OPs are one command (30_encoding.md R104,
R107). -/
theorem opcode_of_decodeOp {op arg : Byte} {i : Instr} (h : decodeOp op arg = some i) : opcode i = op := by
  unfold decodeOp at h
  split at h <;> cases h <;> exact BitVec.eq_of_toNat_eq (Eq.symm ‹_›)

/-- Bytes that decode are a command word (OP, ARG) and the bytes after it (30_encoding.md R101). -/
theorem decode_eq_ok_iff {bytes rest : List Byte} {i : Instr} :
    decode bytes = .ok (i, rest) ↔ ∃ op arg, bytes = op :: arg :: rest ∧ decodeOp op arg = some i := by
  match bytes with
  | [] | [_] => simp [decode]
  | op :: arg :: tail => cases hd : decodeOp op arg <;> simp [decode, hd, and_comm]

/-- Settles O1: OP gives back the command's opcode and ARG its operand byte, and the opcode map read backwards gives
back the command. -/
theorem decodeInvertsEncode : Obligations.DecodeInvertsEncode := by
  refine ⟨fun i rest => ?decodes, fun bytes rest i h => ?encodes⟩
  case decodes => exact decode_eq_ok_iff.mpr ⟨opcode i, i.arg, rfl, decodeOp_opcode i⟩
  case encodes =>
    obtain ⟨op, arg, rfl, hd⟩ := decode_eq_ok_iff.mp h
    rw [encode, opcode_of_decodeOp hd, arg_of_decodeOp hd]
    rfl

/-- Settles O2, by running the decoder on the ten words. -/
theorem tableWordsDecode : Obligations.TableWordsDecode := by
  unfold Obligations.TableWordsDecode
  decide

/-! ## Reserved OP values -/

/-- Whether an OP is reserved does not depend on ARG (30_encoding.md R101, R107). -/
theorem decodeOp_eq_none_arg (op arg arg' : Byte) : decodeOp op arg = none ↔ decodeOp op arg' = none := by
  unfold decodeOp
  split <;> simp

/-- The OPs of no command are those in the ranges of 30_encoding.md R105. -/
theorem decodeOp_eq_none_iff (op arg : Byte) : decodeOp op arg = none ↔ Spec.reservedOp op.toNat = true := by
  have hranges : ∀ op : Byte, decodeOp op 0 = none ↔ Spec.reservedOp op.toNat = true := by decide +kernel
  exact (decodeOp_eq_none_arg op arg 0).trans (hranges op)

/-- A write at CMD issues its byte (20_memory.md R75). -/
theorem step_wr_cmd {s : State} {rest : List Event} {op : Byte} (he : s.events = .wr 0xF0 op :: rest) :
    step s = issue op (s.withEvents rest) := by
  rw [step_cons he, takeEvent, busWrite, locate_cmd]

/-- Settles O3: the ranges by running over the 256 OPs, the step by the two ways an issue is refused before its command
is known. -/
theorem reservedOpsAreRejected : Obligations.ReservedOpsAreRejected := by
  refine ⟨by decide +kernel, decodeOp_eq_none_iff, fun s rest op hop he => ⟨fun hp => ?_, fun hp => ?_⟩⟩
  · have hd : decodeOp op s.arg = none := (decodeOp_eq_none_iff op s.arg).mpr hop
    exact (step_wr_cmd he).trans (issue_illegal hp hd)
  · exact (step_wr_cmd he).trans (issue_busy (State.busy_iff.mpr hp))

/-! ## The expansions of the host's statements -/

theorem loadFrom_length (r : RegName) (j : Nat) (bytes : List Byte) : (loadFrom r j bytes).length = bytes.length := by
  induction bytes generalizing j with
  | nil => rfl
  | cons b bytes ih => simp [loadFrom, ih]

/-- Transaction k of a load from byte j on writes byte k of the string at byte j + k of the register. -/
theorem loadFrom_getElem? (r : RegName) (j : Nat) (bytes : List Byte) (k : Nat) (h : k < bytes.length) :
    (loadFrom r j bytes)[k]? = some (.wr (r.addr (j + k)) bytes[k]) := by
  induction bytes generalizing j k with
  | nil => cases h
  | cons b bytes ih =>
    cases k with
    | zero => rfl
    | succ k => simpa [loadFrom, Nat.add_assoc, Nat.add_comm 1 k] using ih (j + 1) k (Nat.lt_of_succ_lt_succ h)

/-- Settles O16, statement by statement; only `ld` and `st` are more than an unfolding. -/
theorem hostStatementsExpand : Obligations.HostStatementsExpand := by
  refine ⟨fun _ _ => ⟨rfl, rfl⟩, fun r bytes => ⟨loadFrom_length r 0 bytes, fun k h => ?ld⟩,
    fun r => ⟨by simp [HostStmt.expand], fun k h => ?st⟩, fun _ _ => ⟨rfl, rfl⟩, rfl, rfl⟩
  case ld => simpa [HostStmt.expand, RegName.addr] using loadFrom_getElem? r 0 bytes k h
  case st => simp [HostStmt.expand, RegName.addr, h]

/-! ## The addresses of a register's bytes -/

/-- No register's bytes pass 0xFF: byte k of a register stands at its base + k (20_memory.md R73). -/
theorem RegName.addr_toNat {r : RegName} {k : Nat} (h : k < r.size) : (r.addr k).toNat = r.base + k := by
  have hr : r.base + r.size ≤ 256 := by cases r <;> decide
  exact Nat.mod_eq_of_lt (by omega)

/-- The byte of the window that stands at place k of a register (20_memory.md R71). -/
def RegName.byte : (r : RegName) → Fin r.size → WindowReg
  | .dinA, k => .dinA k
  | .dinB, k => .dinB k
  | .dinC, k => .dinC k
  | .doutA, k => .doutA k
  | .doutB, k => .doutB k
  | .key, k => .key k
  | .iv, k => .iv k
  | .ctr, k => .ctr k
  | .cmd, _ => .cmd
  | .arg, _ => .arg
  | .status, _ => .status
  | .errcode, _ => .errcode

/-- The address of place k of a register names that byte of it (20_memory.md R71, R73). -/
theorem locate_addr (r : RegName) (k : Fin r.size) : locate (r.addr k) = r.byte k := by
  have ha := RegName.addr_toNat k.isLt
  cases r with
  | dinA => exact locate_dinA _ k ha
  | dinB => exact locate_dinB _ k ha
  | dinC => exact locate_dinC _ k ha
  | doutA => exact locate_doutA _ k ha
  | doutB => exact locate_doutB _ k ha
  | key => exact locate_key _ k ha
  | iv => exact locate_iv _ k ha
  | ctr => exact locate_ctr _ k ha
  | cmd | arg | status | errcode => revert k; decide

/-! ## `ld` -/

/-- A register with bytes laid over it from byte 0 on. -/
def overlay {n : Nat} (bytes : List Byte) (v : Vector Byte n) : Vector Byte n :=
  Vector.ofFn fun k => bytes.getD k.val v[k]

@[simp] theorem overlay_getElem {n : Nat} (bytes : List Byte) (v : Vector Byte n) (k : Nat) (h : k < n) :
    (overlay bytes v)[k] = bytes.getD k v[k] := by
  simp [overlay]

theorem overlay_nil {n : Nat} (v : Vector Byte n) : overlay [] v = v := by
  ext k h
  simp

/-- One byte more reaches one place further. -/
theorem overlay_concat {n : Nat} (bytes : List Byte) (b : Byte) (v : Vector Byte n) (h : bytes.length < n) :
    overlay (bytes ++ [b]) v = (overlay bytes v).set bytes.length b := by
  ext k hk
  rw [Vector.getElem_set]
  obtain hlt | rfl | hgt := Nat.lt_trichotomy k bytes.length
  · simp [List.getElem?_append_left hlt, hlt.ne']
  · simp
  · simp [List.getElem?_eq_none, hgt.ne, Nat.succ_le_of_lt hgt, hgt.le]

/-- As many bytes as the register holds are the register. -/
theorem overlay_toList {n : Nat} (b v : Vector Byte n) : overlay b.toList v = b := by
  ext k h
  simp [h]

/-- A store does not depend on the events to come, and keeps them. -/
theorem storeInput_withEvents (w : WindowReg) (v : Byte) (s : State) (rest : List Event) :
    (s.withEvents rest).storeInput w v = (s.storeInput w v).withEvents rest := by
  cases w <;> rfl

/-- A store starts and ends no command. -/
@[simp] theorem storeInput_pend (w : WindowReg) (v : Byte) (s : State) : (s.storeInput w v).pend = s.pend := by
  cases w <;> rfl

section
/-! Here `put v` is a state with `v` in the register that `ld` names. -/

variable {r : RegName} {put : Vector Byte r.size → State}
  (hput : ∀ v (k : Fin r.size) b, (put v).storeInput (r.byte k) b = put (v.set k b))
include hput

/-- The stores of `ld`, one after another, lay its bytes over the register. -/
theorem foldl_storeInput (v : Vector Byte r.size) (bytes : List Byte) (hlen : bytes.length ≤ r.size) :
    bytes.zipIdx.foldl (fun t p => t.storeInput (locate (r.addr p.2)) p.1) (put v) = put (overlay bytes v) := by
  induction bytes using List.reverseRecOn with
  | nil => rw [overlay_nil]; rfl
  | append_singleton bytes b ih =>
    rw [List.length_append, List.length_singleton] at hlen
    rw [List.zipIdx_append, List.foldl_append, ih (by omega), overlay_concat bytes b v hlen,
      ← hput (overlay bytes v) ⟨bytes.length, hlen⟩ b, ← locate_addr]
    simp

/-- `ld` of an input register on an idle block lays its bytes over the register and changes nothing else
(30_encoding.md R109). -/
theorem run_ld (hin : ∀ k, (r.byte k).isInput = true) (v : Vector Byte r.size)
    (hp : (put v).pend = none) (rest : List Event) (bytes : List Byte) (hlen : bytes.length ≤ r.size) :
    Host.Core.run Sys2Proof.core bytes.length ((put v).withEvents (HostStmt.expand (.ld r bytes) ++ rest)) =
      .next ((put (overlay bytes v)).withEvents rest) := by
  rw [← foldl_storeInput hput v bytes hlen]
  refine run_loadFrom (fun s k b => s.storeInput (locate (r.addr k)) b) r r.size
    (fun s k b rest hk hs => ⟨?_, by simpa⟩) bytes 0 (put v) rest hp (by omega)
  have hw : (locate (r.addr k)).isInput = true := by rw [locate_addr r ⟨k, hk⟩]; exact hin _
  have hidle : (s.withEvents rest).busy = false := State.busy_of_none hs
  rw [takeEvent, busWrite_input hw, guardedStore_idle hidle, storeInput_withEvents]

/-- `ld` with as many bytes as the register holds fills it. -/
theorem run_ld_whole (hin : ∀ k, (r.byte k).isInput = true) (v : Vector Byte r.size)
    (hp : (put v).pend = none) (rest : List Event) (b : Vector Byte r.size) :
    Host.Core.run Sys2Proof.core r.size ((put v).withEvents (HostStmt.expand (.ld r b.toList) ++ rest)) =
      .next ((put b).withEvents rest) := by
  have h := run_ld hput hin v hp rest b.toList b.length_toList.le
  rwa [b.length_toList, overlay_toList] at h

end

/-- Settles O17: a whole string fills its register, and a short one for DIN_A is laid over what stands there. -/
theorem loadFillsOperandRegister : Obligations.LoadFillsOperandRegister := by
  intro s rest hp
  refine ⟨?dinA, ?dinB, ?dinC, ?key, ?iv, ?arg, ?short⟩
  case dinA =>
    exact run_ld_whole (r := .dinA) (put := fun b => { s with dinA := b }) (fun _ _ _ => rfl) (fun _ => rfl) s.dinA hp
      rest
  case dinB =>
    exact run_ld_whole (r := .dinB) (put := fun b => { s with dinB := b }) (fun _ _ _ => rfl) (fun _ => rfl) s.dinB hp
      rest
  case dinC =>
    exact run_ld_whole (r := .dinC) (put := fun b => { s with dinC := b }) (fun _ _ _ => rfl) (fun _ => rfl) s.dinC hp
      rest
  case key =>
    exact run_ld_whole (r := .key) (put := fun b => { s with key := b }) (fun _ _ _ => rfl) (fun _ => rfl) s.key hp
      rest
  case iv =>
    exact run_ld_whole (r := .iv) (put := fun b => { s with iv := b }) (fun _ _ _ => rfl) (fun _ => rfl) s.iv hp
      rest
  case arg =>
    intro v
    let t : State := { s with events := .wr 0xF1 v :: rest }
    exact run_succ (n := 0) (step_wr_idle (s := t) rfl locate_arg rfl hp)
  case short =>
    intro b n hn
    have hlen : (b.toList.take n).length = n := by simp [hn]
    have hover : overlay (b.toList.take n) s.dinA =
        Vector.ofFn fun j => if j.val < n then b[j] else s.dinA[j] := by
      ext k hk
      by_cases h : k < n <;> simp [h, hk]
    have h := run_ld (r := .dinA) (put := fun b => { s with dinA := b }) (fun _ _ _ => rfl) (fun _ => rfl) s.dinA hp
      rest (b.toList.take n) (hlen.le.trans hn)
    rw [hlen] at h
    rw [← hover]
    exact h

/-! ## `st` -/

section
variable {s : State} (hp : s.pend = none) (rest : List Event) (r : RegName)
include hp

/-- `st` on an idle block reads the register byte by byte, and yields what the reads return (30_encoding.md R109). -/
theorem run_st (v : Vector Byte r.size) (hread : ∀ k : Fin r.size, readReg (r.byte k) s = v[k]) :
    ∃ t, Host.Core.run Sys2Proof.core r.size { s with events := HostStmt.expand (.st r) ++ rest } = .next t ∧
      t = { s with events := rest, reads := s.reads ++ v.toList } ∧ (HostStmt.st r).yielded t = v.toList := by
  let t : State := s.withEvents (HostStmt.expand (.st r) ++ rest)
  let addrs : List Byte := (List.range r.size).map r.addr
  have hbytes : (addrs.map fun a => readReg (locate a) t) = v.toList := by
    refine List.ext_getElem (by simp [addrs]) fun k hk _ => ?_
    have hk : k < r.size := by simpa [addrs] using hk
    have hr : readReg (r.byte ⟨k, hk⟩) t = v[k] := (readReg_reads _ s t.events s.reads).trans (hread ⟨k, hk⟩)
    simpa [addrs, locate_addr r ⟨k, hk⟩] using hr
  have h := run_reads addrs t rest hp (by simp [addrs, t, HostStmt.expand])
  rw [hbytes, List.length_map, List.length_range] at h
  exact ⟨_, h, rfl, by simp [HostStmt.yielded, HostStmt.yieldSize, t]⟩

/-- `st` of a register whose every byte reads as `c` yields that many copies of `c`. -/
theorem run_st_replicate (c : Byte) (hread : ∀ k, readReg (r.byte k) s = c) :
    ∃ t, Host.Core.run Sys2Proof.core r.size { s with events := HostStmt.expand (.st r) ++ rest } = .next t ∧
      t = { s with events := rest, reads := s.reads ++ List.replicate r.size c } ∧
      (HostStmt.st r).yielded t = List.replicate r.size c :=
  run_st hp rest r (Vector.replicate r.size c) (by simpa using hread)

end

/-- Settles O18, register by register: what each byte reads as on an idle block. -/
theorem storeYieldsRegister : Obligations.StoreYieldsRegister := by
  intro s rest hp
  refine ⟨?dinA, ?dinB, ?dinC, ?doutA, ?doutB, ?key, ?iv, ?ctr, ?cmd, ?arg, ?status, ?errcode⟩
  case dinA => exact run_st hp rest .dinA s.dinA fun _ => rfl
  case dinB => exact run_st hp rest .dinB s.dinB fun _ => rfl
  case dinC => exact run_st hp rest .dinC s.dinC fun _ => rfl
  case doutA => exact run_st hp rest .doutA s.doutA fun _ => rfl
  case doutB => exact run_st hp rest .doutB s.doutB fun _ => rfl
  case key => exact run_st_replicate hp rest .key 0x00 fun _ => rfl
  case iv => exact run_st hp rest .iv s.iv fun _ => rfl
  case ctr => exact run_st hp rest .ctr s.ctr fun _ => rfl
  case cmd => exact run_st_replicate hp rest .cmd 0x00 fun _ => rfl
  case arg => exact run_st_replicate hp rest .arg s.arg fun _ => rfl
  case status => exact run_st_replicate hp rest .status s.statusByte fun _ => rfl
  case errcode => exact run_st_replicate hp rest .errcode s.errcode fun _ => rfl

/-! ## `wait` -/

/-- Bit 0 of STATUS is BUSY (10_state.md R38). -/
theorem statusByte_bit0 (s : State) : s.statusByte.getLsbD 0 = s.busy := by
  have h := statusValue_bit0 s
  rwa [statusValue, locate_status] at h

/-- Settles O19: the turns that find BUSY = 1, the engine's move, and the turn that finds BUSY = 0. -/
theorem waitReadsUntilIdle : Obligations.WaitReadsUntilIdle := by
  intro s rest turns
  refine ⟨fun hp => ⟨?_, run_succ (n := 0) (step_poll_idle rfl hp)⟩, fun i hp => ⟨?_, ?_⟩⟩
  · rw [statusByte_bit0, State.busy_of_none hp]
  · rw [statusByte_bit0, State.busy_of_some hp]
  let u : State := { s with
    events := .poll 0 :: rest
    reads := s.reads ++ List.replicate (turns + 1) s.statusByte }
  have hu : u.pend = some i := hp
  let v : State := (effectOf i u).finish
  have hv : v.events = .poll 0 :: rest := by
    obtain ⟨-, -, -, -, -, -, -, -, hevents, -⟩ := effectOf_frame i u
    exact hevents
  refine ⟨v, exec_completes hu, statusByte_bit0 v, ?_⟩
  have hbusy := (run_poll_busy turns { s with events := .poll turns :: rest } hp rfl).1
  have hengine := step_engine (s := { u with events := .engine :: .poll 0 :: rest }) rfl hp
  have hlast := step_poll_idle (s := v) hv rfl
  exact (run_add (n := 2) hbusy).trans ((run_succ (n := 1) hengine).trans (run_succ (n := 0) hlast))

/-! ## Hex strings -/

/-- The digit of a number below 16 has that value. -/
theorem hexValue_digit : ∀ n < 16, hexValue (hexDigits.getD n '0') = some n := by decide

/-- A byte is its two hex digits, the high one first. -/
theorem ofNat_hex_digits (b : Byte) : BitVec.ofNat 8 (16 * (b.toNat / 16) + b.toNat % 16) = b := by
  rw [Nat.div_add_mod, BitVec.ofNat_toNat, BitVec.setWidth_eq]

theorem bytesOfHex_hexOfBytes (bytes : List Byte) : bytesOfHex (hexOfBytes bytes) = some bytes := by
  induction bytes with
  | nil => rfl
  | cons b bytes ih =>
    have hhi := hexValue_digit (b.toNat / 16) (by omega)
    have hlo := hexValue_digit (b.toNat % 16) (by omega)
    rw [hexOfBytes, bytesOfHex, hhi, hlo, ih]
    simp [ofNat_hex_digits]

theorem hexOfBytes_length (bytes : List Byte) : (hexOfBytes bytes).length = 2 * bytes.length := by
  induction bytes with
  | nil => rfl
  | cons b bytes ih => simp only [hexOfBytes, List.length_cons, ih]; omega

/-- Settles O20, by induction on the bytes. -/
theorem hexStringsReadBack : Obligations.HexStringsReadBack :=
  ⟨fun bytes => ⟨bytesOfHex_hexOfBytes bytes, hexOfBytes_length bytes⟩, fun _ _ => rfl, by decide⟩

end Sys2Proof.Machine
end

section
/-! Proofs of the statements about the sequencer (40_sequencer.md): the issue, the completion, the host's transactions
while a command is in flight, and the runs that end with nothing in flight. -/

namespace Sys2Proof.Machine

/-! ## The issue -/

/-- The error the statements give a command is the code of the first failing check of its rule (60_exceptions.md R283). -/
theorem ownError_eq_firstFailure (i : Instr) (s : State) :
    Spec.ownError i s = (firstFailure (checksOf i s)).map ErrorKind.code := by
  cases i with
  | rcon a =>
    have hillegal : a.toNat < 1 ∨ a.toNat > 32 ↔ ¬ rconIndexLegal a = true := by rw [rconIndexLegal_iff]; omega
    simp only [Spec.ownError, hillegal, checksOf, firstFailure_cons, indexCheck]
    cases rconIndexLegal a <;> rfl
  | encBlock a | decBlock a =>
    simp only [Spec.ownError, checksOf, firstFailure_cons, keyCheck]
    cases s.kv <;> rfl
  | ctrChunk n =>
    have hillegal : n.toNat < 1 ∨ n.toNat > 16 ↔ ¬ chunkLengthLegal n = true := by rw [chunkLengthLegal_iff]; omega
    simp only [Spec.ownError, hillegal, checksOf, firstFailure_cons, keyCheck, counterCheck, lengthCheck]
    cases s.kv with
    | false => rfl
    | true =>
    cases s.ctrv with
    | false => rfl
    | true => cases chunkLengthLegal n <;> rfl
  | _ => rfl

/-- A CMD write with a command in flight only records BUSY_ERR (40_sequencer.md R130). -/
theorem step_wr_cmd_busy {s : State} {rest : List Event} {op : Byte} {j : Instr}
    (he : s.events = .wr 0xF0 op :: rest) (hp : s.pend = some j) :
    step s = .next ((s.withEvents rest).recordError .busyErr) :=
  (step_wr_cmd he).trans (issue_busy (State.busy_of_some (s := s.withEvents rest) hp))

/-- A CMD write with nothing in flight whose OP decodes runs the command, with the event taken and DONE cleared
(40_sequencer.md R130). -/
theorem step_wr_cmd_legal {s : State} {rest : List Event} {op : Byte} {i : Instr}
    (he : s.events = .wr 0xF0 op :: rest) (hp : s.pend = none) (hd : decodeOp op s.arg = some i) :
    step s = exec i (s.withEvents rest).clearDone :=
  (step_wr_cmd he).trans (issue_legal (s := s.withEvents rest) hp hd)

/-- Settles O7, by what the state holds in flight, what OP decodes to, and the first failing check. -/
theorem issueReportsFirstFailure : Obligations.IssueReportsFirstFailure := by
  intro s rest op he
  cases hp : s.pend with
  | some j => exact step_wr_cmd_busy he hp
  | none =>
    cases hd : decodeOp op s.arg with
    | none => exact (step_wr_cmd he).trans (issue_illegal (s := s.withEvents rest) hp hd)
    | some i =>
      have hc : checksOf i (s.withEvents rest).clearDone = checksOf i s := by cases i <;> rfl
      rw [step_wr_cmd_legal he hp hd, exec_issues i (s := (s.withEvents rest).clearDone) hp, hc]
      simp only [ownError_eq_firstFailure]
      cases firstFailure (checksOf i s) <;> rfl

/-- Settles O4: the two ways a CMD write goes. -/
theorem cmdWriteRunsDecodedCommand : Obligations.CmdWriteRunsDecodedCommand := by
  intro s rest op he
  refine ⟨fun i hp hdec => ?idle, fun j hp => ?busy⟩
  case idle =>
    obtain ⟨op', arg', hbytes, hd⟩ := decode_eq_ok_iff.mp hdec
    cases hbytes
    exact step_wr_cmd_legal he hp hd
  case busy => exact step_wr_cmd_busy he hp

/-- A table word is the command its two bytes decode to (30_encoding.md R101). -/
theorem decodeOp_of_decodeTableWord {nbits w : Nat} {i : Instr} (h : decodeTableWord nbits w = some i) :
    decodeOp (tableBytes nbits w).1 (tableBytes nbits w).2 = some i := by
  unfold decodeTableWord decode at h
  cases hd : decodeOp (tableBytes nbits w).1 (tableBytes nbits w).2 with
  | none => simp [hd] at h
  | some j => simpa [hd] using h

/-- Settles O6: the placed word is a CMD write with ARG set. -/
theorem placedWordRunsNext : Obligations.PlacedWordRunsNext := by
  intro s nbits w i h
  have hd := decodeOp_of_decodeTableWord h
  rw [step_wr_cmd_legal (s := s.withFetchWord nbits w) rfl rfl hd, arg_of_decodeOp hd]
  rfl

/-! ## The engine's turn and the completion -/

/-- The engine's move with a command in flight is exec of it, with the engine's event taken if there is one
(40_sequencer.md R134). -/
theorem step_engineMoves {s : State} {i : Instr} (hm : Spec.engineMoves s) (hp : s.pend = some i) :
    step s = exec i (s.withEvents s.events.tail) := by
  obtain he | ⟨rest, he⟩ := hm
  · have hs : s.withEvents s.events.tail = s := by rw [he]; cases s; cases he; rfl
    rw [step_nil he, engineTurn_some hp, hs]
  · rw [step_cons he, takeEvent, he]
    exact engineTurn_some (s := s.withEvents rest) hp

/-- Settles O5: each clause is one case of the engine's turn. -/
theorem engineTurnRunsPendingCommand : Obligations.EngineTurnRunsPendingCommand := by
  intro s rest
  refine ⟨fun i he hp => ?_, fun i he hp => ?_, fun he hp => ?_, fun he hp => ?_⟩
  · exact (step_cons he).trans (engineTurn_some (s := s.withEvents rest) hp)
  · exact (step_nil he).trans (engineTurn_some hp)
  · exact (step_cons he).trans (engineTurn_none (s := s.withEvents rest) hp)
  · exact (step_nil he).trans (engineTurn_none hp)

/-- A command whose rule does not name DOUT_A leaves it (40_sequencer.md R136). -/
theorem effectOf_doutA {i : Instr} (s : State) (h : Spec.writesDoutA i = false) :
    (effectOf i s).doutA = s.doutA := by
  cases i with
  | nop a | expandKey a | ctrInit a => simp [effectOf]
  | _ => cases h

/-- FEISTEL alone writes DOUT_B (40_sequencer.md R136; 44_keyschedule.md R226). -/
theorem effectOf_doutB {i : Instr} (s : State) (h : ∀ a, i ≠ .feistel a) : (effectOf i s).doutB = s.doutB := by
  cases i with
  | feistel a => exact absurd rfl (h a)
  | _ => simp [effectOf]

/-- Only the commands of the counter mode write CTR (40_sequencer.md R136; 46_counter.md R265, R266). -/
theorem effectOf_ctr {i : Instr} (s : State) (hinit : ∀ a, i ≠ .ctrInit a) (hchunk : ∀ n, i ≠ .ctrChunk n) :
    (effectOf i s).ctr = s.ctr := by
  cases i with
  | ctrInit a => exact absurd rfl (hinit a)
  | ctrChunk n => exact absurd rfl (hchunk n)
  | _ => simp [effectOf]

/-- A DOUT_A the rule names is written whole, from no result register (40_sequencer.md R136). -/
theorem effectOf_doutA_whole {i : Instr} (s : State) (p : Block × Block) (h : Spec.writesDoutA i = true) :
    (effectOf i (s.writeDoutAB p)).doutA = (effectOf i s).doutA := by
  cases i with
  | nop a | expandKey a | ctrInit a => cases h
  | _ => simp [effectOf]

/-- Settles O8: the completion is the effect and the end of the command, and each clause is a frame of the effect. -/
theorem completionWritesOnlyNamedRegisters : Obligations.CompletionWritesOnlyNamedRegisters := by
  intro i s hp
  obtain ⟨hdinA, hdinB, hdinC, hkey, hiv, harg, herr, hcode, hevents, hreads, hdraws⟩ := effectOf_frame i s
  refine ⟨(effectOf i s).finish, exec_completes hp, rfl, rfl, herr, hcode, hdinA, hdinB, hdinC, hkey, hiv, harg,
    hevents, hreads, hdraws, effectOf_doutA s, effectOf_doutB s, fun hkey => ?schedule, effectOf_ctr s,
    effectOf_ctrv s, fun a b => ?whole⟩
  case schedule =>
    obtain hkept | ⟨⟨a, rfl⟩, -⟩ := effectOf_schedule i s
    · exact hkept
    · exact absurd rfl (hkey a)
  case whole =>
    refine ⟨_, exec_completes (s := s.writeDoutAB (a, b)) hp, effectOf_doutA_whole s (a, b), ?_⟩
    rintro x rfl
    simp [effectOf]

/-! ## The host's transactions while a command is in flight -/

/-- The state with the fields that the host can change while a command is in flight as in `h`: DONE, ERR, ERRCODE and
the model's own (40_sequencer.md R135). -/
def State.withHostFields (s h : State) : State :=
  { s with
    done := h.done, err := h.err, errcode := h.errcode, events := h.events, reads := h.reads, draws := h.draws }

/-- With a command in flight a move of the host changes only DONE, ERR, ERRCODE and the model's own fields
(20_memory.md R75; 40_sequencer.md R130). -/
theorem HostMove.eq_withHostFields {i : Instr} {s t : State} (h : HostMove s t) (hp : s.pend = some i) :
    t = s.withHostFields t := by
  cases h with
  | observe | drop | status => rfl
  | store idle | reject idle | accept idle => simp [hp] at idle

/-- No effect uses or writes the fields that the host can change (40_sequencer.md R135). -/
theorem effectOf_withHostFields (i : Instr) (s h : State) :
    effectOf i (s.withHostFields h) = (effectOf i s).withHostFields h := by
  cases i <;> rfl

/-- An issue leaves the events to come. -/
theorem issue_events {op : Byte} {s t : State} (h : issue op s = .next t) : t.events = s.events := by
  obtain ⟨j, -, rfl⟩ | ⟨-, -, rfl⟩ | ⟨i, e, -, -, -, rfl⟩ | ⟨i, -, -, -, rfl⟩ := issue_cases h <;> rfl

/-- A write on the bus leaves the events to come. -/
theorem busWrite_events {a v : Byte} {s t : State} (h : busWrite a v s = .next t) : t.events = s.events := by
  obtain hl | ⟨-, rfl⟩ | ⟨-, da, db, dc, ky, iv, ar, rfl⟩ | ⟨-, rfl⟩ | rfl := busWrite_cases h
  · exact issue_events (op := v) (by simpa [busWrite, hl] using h)
  all_goals rfl

/-- Every event but a turn of `wait` is taken whole: it puts nothing back (log entry 1). -/
theorem takeEvent_events {e : Event} {s t : State} (he : ∀ turns, e ≠ .poll turns) (h : takeEvent e s = .next t) :
    t.events = s.events := by
  cases e with
  | rd a =>
    obtain ⟨b, n, hs⟩ := busRead_eq a s
    cases h
    rw [hs]
  | wr a v => exact busWrite_events h
  | poll turns => exact absurd rfl (he turns)
  | reset => cases h; rfl
  | engine =>
    obtain ⟨-, rfl⟩ | ⟨i, -, rfl⟩ := engine_cases h
    · rfl
    · obtain ⟨-, -, -, -, -, -, -, -, hevents, -⟩ := effectOf_frame i s
      exact hevents

/-- A read or write on the bus with a command in flight changes only the fields that the host can change, and takes its
event (40_sequencer.md R135). -/
theorem step_onBus_busy {e : Event} {rest : List Event} {i : Instr} {s : State} (hb : Spec.onBus e = true)
    (he : s.events = e :: rest) (hp : s.pend = some i) :
    ∃ t, step s = .next t ∧ t.events = rest ∧ t = s.withHostFields t := by
  have hpoll : ∀ turns, e ≠ .poll turns := by rintro turns rfl; cases hb
  have hreset : e ≠ .reset := by rintro rfl; cases hb
  have hengine : e ≠ .engine := by rintro rfl; cases hb
  obtain ⟨t, ht⟩ := takeEvent_answers e (s.withEvents rest)
  have hmove := hostMove_of_takeEvent hreset hengine ht
  exact ⟨t, (step_cons he).trans ht, takeEvent_events hpoll ht, hmove.eq_withHostFields hp⟩

/-- A run of reads and writes on the bus with a command in flight changes only the fields that the host can change
(40_sequencer.md R135). -/
theorem run_onBus_busy {rest : List Event} {i : Instr} (hs : List Event) (s : State)
    (hb : ∀ e ∈ hs, Spec.onBus e = true) (he : s.events = hs ++ rest) (hp : s.pend = some i) :
    ∃ t : State, Host.Core.run Sys2Proof.core hs.length s = .next t ∧ t.events = rest ∧ t = s.withHostFields t := by
  induction hs generalizing s with
  | nil => exact ⟨s, run_zero s, he, rfl⟩
  | cons e hs ih =>
    obtain ⟨hbe, hbs⟩ := List.forall_mem_cons.mp hb
    obtain ⟨u, hstep, hu, hsu⟩ := step_onBus_busy hbe he hp
    have hpu : u.pend = some i := by rw [hsu]; exact hp
    obtain ⟨t, hrun, ht, hut⟩ := ih u hbs hu hpu
    refine ⟨t, (run_succ hstep).trans hrun, ht, ?_⟩
    rw [hut, hsu]
    rfl

/-- Settles O9: the transactions change only the fields that the host can change, which no effect uses or writes. -/
theorem completionPointIsImmaterial : Obligations.CompletionPointIsImmaterial := by
  intro hs rest i s hb he hp
  obtain ⟨t, hrun, ht, hst⟩ := run_onBus_busy hs s hb he hp
  have hpt : t.pend = some i := by rw [hst]; exact hp
  have heffect : effectOf i t = (effectOf i s).withHostFields t := by
    rw [← effectOf_withHostFields, ← hst]
  refine ⟨t, hrun, ht, hpt, ?_⟩
  have hcompletes : exec i t = .next ((effectOf i s).withHostFields t).finish := heffect ▸ exec_completes hpt
  rw [hst] at hcompletes ⊢
  exact ⟨rfl, rfl, rfl, rfl, rfl, rfl, rfl, rfl, rfl, rfl, rfl, rfl, _, _, hcompletes, exec_completes hp,
    rfl, rfl, rfl, rfl, rfl, rfl⟩

/-! ## Runs that end with nothing in flight -/

/-- The most steps of a list of events are those of its head and those of the others. -/
theorem stepsOfAll_cons (e : Event) (rest : List Event) :
    Spec.stepsOfAll (e :: rest) = Spec.stepsOf e + Spec.stepsOfAll rest := by
  simp [Spec.stepsOfAll]

/-- The engine's move with a command in flight ends the command (40_sequencer.md R134). -/
theorem step_engineMoves_completes {s : State} {i : Instr} (hm : Spec.engineMoves s) (hp : s.pend = some i) :
    ∃ t, step s = .next t ∧ t.pend = none ∧ t.done = true :=
  ⟨_, (step_engineMoves hm hp).trans (exec_completes (s := s.withEvents s.events.tail) hp), rfl, rfl⟩

/-- The command `i` is in flight at the state and after each of the next `n` steps. -/
def InFlightThrough (i : Instr) (n : Nat) (s : State) : Prop :=
  ∀ m, m ≤ n → ∃ w, Host.Core.run Sys2Proof.core m s = .next w ∧ w.pend = some i

theorem InFlightThrough.zero {i : Instr} {s : State} (hp : s.pend = some i) : InFlightThrough i 0 s
  | 0, _ => ⟨s, run_zero s, hp⟩

theorem InFlightThrough.succ {n : Nat} {i : Instr} {s t : State} (hp : s.pend = some i) (hstep : step s = .next t)
    (h : InFlightThrough i n t) : InFlightThrough i (n + 1) s
  | 0, _ => ⟨s, run_zero s, hp⟩
  | m + 1, hm => by rw [run_succ hstep]; exact h m (Nat.le_of_succ_le_succ hm)

/-- The command is in flight where the run ends. -/
theorem InFlightThrough.pend_last {n : Nat} {i : Instr} {s u : State} (h : InFlightThrough i n s)
    (hrun : Host.Core.run Sys2Proof.core n s = .next u) : u.pend = some i := by
  obtain ⟨w, hw, hpw⟩ := h n (Nat.le_refl n)
  rw [hrun] at hw
  cases hw
  exact hpw

/-- With a command in flight and no reset to come, a run reaches the engine's move, with the command in flight all the
way (40_sequencer.md R132). -/
theorem run_reaches_engineMoves {i : Instr} (es : List Event) (s : State) (he : s.events = es)
    (hp : s.pend = some i) (hr : Event.reset ∉ es) :
    ∃ (n : Nat) (u : State), n ≤ Spec.stepsOfAll es ∧ Host.Core.run Sys2Proof.core n s = .next u ∧
      InFlightThrough i n s ∧ Spec.engineMoves u := by
  induction es generalizing s with
  | nil => exact ⟨0, s, Nat.zero_le _, run_zero s, .zero hp, .inl he⟩
  | cons e rest ih =>
    obtain ⟨hre, hrest⟩ := not_or.mp (mt List.mem_cons.mpr hr)
    cases e with
    | reset => exact absurd rfl hre
    | engine => exact ⟨0, s, Nat.zero_le _, run_zero s, .zero hp, .inr ⟨rest, he⟩⟩
    | poll turns =>
      obtain ⟨hrun, hall⟩ := run_poll_busy turns s hp he
      refine ⟨turns + 1, _, ?_, hrun, hall, .inr ⟨_, rfl⟩⟩
      rw [stepsOfAll_cons, Spec.stepsOf]
      omega
    | rd a | wr a v =>
      obtain ⟨t, hstep, ht, hst⟩ := step_onBus_busy rfl he hp
      have hpt : t.pend = some i := by rw [hst]; exact hp
      obtain ⟨n, u, hn, hrun, hall, hm⟩ := ih t ht hpt hrest
      refine ⟨n + 1, u, ?_, (run_succ hstep).trans hrun, hall.succ hp hstep, hm⟩
      rw [stepsOfAll_cons, Spec.stepsOf]
      omega

/-- A run takes the next event whole, within the steps the event may take. -/
theorem run_takes_event {e : Event} {rest : List Event} {s : State} (he : s.events = e :: rest) :
    ∃ (n : Nat) (t : State), n ≤ Spec.stepsOf e ∧ Host.Core.run Sys2Proof.core n s = .next t ∧ t.events = rest := by
  by_cases hpoll : ∃ turns, e = .poll turns
  · obtain ⟨turns, rfl⟩ := hpoll
    cases hp : s.pend with
    | none => exact ⟨1, _, Nat.le_add_left 1 (turns + 2), run_succ (n := 0) (step_poll_idle he hp), rfl⟩
    | some i =>
      have hs : { s with events := HostStmt.expand (.wait turns) ++ rest } = s := by cases s; cases he; rfl
      obtain ⟨-, v, -, -, hrun⟩ := (waitReadsUntilIdle s rest turns).2 i hp
      rw [hs] at hrun
      exact ⟨turns + 3, _, Nat.le_refl _, hrun, rfl⟩
  · obtain ⟨t, ht⟩ := takeEvent_answers e (s.withEvents rest)
    have hone : 1 ≤ Spec.stepsOf e := by cases e <;> simp [Spec.stepsOf]
    exact ⟨1, t, hone, run_succ (n := 0) ((step_cons he).trans ht),
      takeEvent_events (fun turns h => hpoll ⟨turns, h⟩) ht⟩

/-- A run takes all the events, within the steps they may take. -/
theorem run_takes_events (es : List Event) (s : State) (he : s.events = es) :
    ∃ (n : Nat) (t : State), n ≤ Spec.stepsOfAll es ∧ Host.Core.run Sys2Proof.core n s = .next t ∧ t.events = [] := by
  induction es generalizing s with
  | nil => exact ⟨0, s, Nat.zero_le _, run_zero s, he⟩
  | cons e rest ih =>
    obtain ⟨m, u, hm, hrunm, hu⟩ := run_takes_event he
    obtain ⟨n, t, hn, hrunn, ht⟩ := ih u hu
    refine ⟨m + n, t, ?_, (run_add hrunm).trans hrunn, ht⟩
    rw [stepsOfAll_cons]
    omega

/-- With no event left, at most one more step leaves nothing in flight (log entry 1). -/
theorem run_drains {s : State} (he : s.events = []) :
    ∃ (n : Nat) (t : State), n ≤ 1 ∧ Host.Core.run Sys2Proof.core n s = .next t ∧ t.events = [] ∧ t.pend = none := by
  cases hp : s.pend with
  | none => exact ⟨0, s, Nat.zero_le _, run_zero s, he, hp⟩
  | some i =>
    have hstep : step s = .next (effectOf i s).finish := by rw [step_nil he, engineTurn_some hp, exec_completes hp]
    obtain ⟨-, -, -, -, -, -, -, -, hevents, -⟩ := effectOf_frame i s
    exact ⟨1, _, Nat.le_refl _, run_succ (n := 0) hstep, hevents.trans he, rfl⟩

/-- Settles O10: the run reaches the engine's move, which completes the command; and a run takes all the events, with at
most one turn of the engine after them. -/
theorem everyCommandCompletes : Obligations.EveryCommandCompletes := by
  refine ⟨fun s i hp hr => ?completes, fun s => ?drains⟩
  case completes =>
    obtain ⟨n, u, hn, hrun, hall, hm⟩ := run_reaches_engineMoves s.events s rfl hp hr
    have hpu : u.pend = some i := hall.pend_last hrun
    obtain ⟨v, hstep, hv, hdone⟩ := step_engineMoves_completes hm hpu
    exact ⟨n, u, v, hn, hrun, hall, hm, step_engineMoves hm hpu, hstep, hv, hdone⟩
  case drains =>
    obtain ⟨m, u, hm, hrunm, hu⟩ := run_takes_events s.events s rfl
    obtain ⟨n, t, hn, hrunn, ht, hp⟩ := run_drains hu
    exact ⟨m + n, t, Nat.add_le_add hm hn, (run_add hrunm).trans hrunn, ht, hp⟩

/-! ## NOP -/

/-- Settles O28: NOP has no check and no effect, so its issue accepts it and its completion only ends it. -/
theorem nopCommand : Obligations.NopCommand := by
  refine ⟨fun arg s => ⟨rfl, fun hp => exec_issues (.nop arg) hp, fun hp => exec_completes hp⟩, ?fromReset⟩
  case fromReset => exact ⟨{ State.reset with done := true }, rfl, by decide⟩

end Sys2Proof.Machine
end

section
/-! Proofs of the statements about the Galois field (41_galois.md): gf_mul as a bilinear product on the powers of x, its
remainder, its laws, and the three commands of the family. -/

namespace Sys2Proof.Machine

/-! ## gf_mul is bilinear -/

/-- Repeated doubling is xor-linear. -/
theorem iterate_gfDouble_xor (k : Nat) (s t : Byte) :
    gfDouble^[k] (s ^^^ t) = gfDouble^[k] s ^^^ gfDouble^[k] t := by
  induction k generalizing s t with
  | zero => rfl
  | succ k ih => rw [Function.iterate_succ_apply, gfDouble_xor, ih]; rfl

theorem gfTerm_xor_left (a a' b : Byte) (k : Nat) :
    gfTerm (a ^^^ a') b k = gfTerm a b k ^^^ gfTerm a' b k := by
  unfold gfTerm
  split
  · exact iterate_gfDouble_xor k a a'
  · rfl

theorem gfTerm_xor_right (a b b' : Byte) (k : Nat) :
    gfTerm a (b ^^^ b') k = gfTerm a b k ^^^ gfTerm a b' k := by
  unfold gfTerm
  rw [BitVec.getLsbD_xor]
  cases b.getLsbD k <;> cases b'.getLsbD k <;> simp

theorem gfTerm_gfDouble_left (a b : Byte) (k : Nat) : gfTerm (gfDouble a) b k = gfDouble (gfTerm a b k) := by
  unfold gfTerm
  split
  · exact Function.Commute.iterate_self gfDouble k a
  · rfl

theorem gfMul_xor_left (a a' b : Byte) : gfMul (a ^^^ a') b = gfMul a b ^^^ gfMul a' b := by
  simp only [gfMul_eq_terms, gfTerm_xor_left]
  ac_rfl

theorem gfMul_xor_right (a b b' : Byte) : gfMul a (b ^^^ b') = gfMul a b ^^^ gfMul a b' := by
  simp only [gfMul_eq_terms, gfTerm_xor_right]
  ac_rfl

theorem gfMul_zero_left (b : Byte) : gfMul 0 b = 0 := by
  simpa using gfMul_xor_left 0 0 b

theorem gfMul_zero_right (a : Byte) : gfMul a 0 = 0 := by
  simpa using gfMul_xor_right a 0 0

/-- Doubling one factor doubles the product. -/
theorem gfMul_gfDouble_left (a b : Byte) : gfMul (gfDouble a) b = gfDouble (gfMul a b) := by
  simp only [gfMul_eq_terms, gfTerm_gfDouble_left, gfDouble_xor]

theorem gfMul_iterate_gfDouble_left (k : Nat) (a b : Byte) :
    gfMul (gfDouble^[k] a) b = gfDouble^[k] (gfMul a b) :=
  (Function.Semiconj.iterate_right (f := (gfMul · b)) (fun a => gfMul_gfDouble_left a b) k) a

/-! ## The powers of x -/

@[simp] theorem gfMul_one_left : ∀ b : Byte, gfMul 1 b = b := by decide +kernel

/-- The power k of x, with k below 8, is the byte with bit k alone. -/
theorem iterate_gfDouble_one_getLsbD : ∀ k < 8, ∀ j < 8, (gfDouble^[k] 1).getLsbD j = decide (j = k) := by decide

/-- A product with a power of x is the copy doubled as often. -/
theorem gfMul_power (a : Byte) (k : Nat) (hk : k < 8) : gfMul a (gfDouble^[k] 1) = gfDouble^[k] a := by
  have hterm : ∀ j < 8, gfTerm a (gfDouble^[k] 1) j = if j = k then gfDouble^[k] a else 0 := fun j hj => by
    unfold gfTerm
    rw [iterate_gfDouble_one_getLsbD k hk j hj]
    by_cases h : j = k <;> simp [h]
  rw [gfMul_eq_terms]
  simp only [hterm, Nat.reduceLT]
  interval_cases k <;> simp

/-- Every byte is a sum of powers of x below 8: what holds of these and of sums holds of every byte. -/
theorem byte_induction {P : Byte → Prop} (zero : P 0) (power : ∀ k < 8, P (gfDouble^[k] 1))
    (xor : ∀ x y, P x → P y → P (x ^^^ y)) (b : Byte) : P b := by
  have term : ∀ k < 8, P (gfTerm 1 b k) := fun k hk => by
    unfold gfTerm
    split
    · exact power k hk
    · exact zero
  have h := xor _ _ (xor _ _ (xor _ _ (xor _ _ (xor _ _ (xor _ _ (xor _ _ (term 0 (by decide)) (term 1 (by decide)))
    (term 2 (by decide))) (term 3 (by decide))) (term 4 (by decide))) (term 5 (by decide))) (term 6 (by decide)))
    (term 7 (by decide))
  rwa [← gfMul_eq_terms, gfMul_one_left] at h

/-! ## The laws of the field -/

theorem gfMul_comm (a b : Byte) : gfMul a b = gfMul b a := by
  induction b using byte_induction with
  | zero => rw [gfMul_zero_left, gfMul_zero_right]
  | power k hk => rw [gfMul_power a k hk, gfMul_iterate_gfDouble_left, gfMul_one_left]
  | xor x y hx hy => rw [gfMul_xor_right, gfMul_xor_left, hx, hy]

theorem gfMul_iterate_gfDouble_right (k : Nat) (a b : Byte) :
    gfMul a (gfDouble^[k] b) = gfDouble^[k] (gfMul a b) := by
  rw [gfMul_comm, gfMul_iterate_gfDouble_left, gfMul_comm]

theorem gfMul_assoc (a b c : Byte) : gfMul (gfMul a b) c = gfMul a (gfMul b c) := by
  induction c using byte_induction with
  | zero => simp only [gfMul_zero_right]
  | power k hk => rw [gfMul_power _ k hk, gfMul_power b k hk, gfMul_iterate_gfDouble_right]
  | xor x y hx hy => simp only [gfMul_xor_right, hx, hy]

/-- Euclid's division: every byte above 1 has a multiple that is smaller and not 0, because the field's polynomial is
irreducible (41_galois.md R152). -/
theorem exists_smaller_multiple : ∀ a : Byte, 1 < a → ∃ q, 0 < gfMul a q ∧ gfMul a q < a := by decide +kernel

/-- Every byte but 0 has an inverse (41_galois.md R152), by descent through its multiples. -/
theorem exists_gfMul_eq_one (a : Byte) (ha : 0 < a) : ∃ b, gfMul a b = 1 := by
  induction h : a.toNat using Nat.strongRecOn generalizing a with
  | ind n ih =>
    by_cases h1 : 1 < a
    · obtain ⟨q, hpos, hlt⟩ := exists_smaller_multiple a h1
      obtain ⟨b, hb⟩ := ih _ (h ▸ hlt) (gfMul a q) hpos rfl
      exact ⟨gfMul q b, by rw [← gfMul_assoc, hb]⟩
    · obtain rfl : a = 1 := by bv_omega
      exact ⟨1, gfMul_one_left 1⟩

/-- Two bytes whose product with a is 1 are equal. -/
theorem eq_of_gfMul_eq_one {a b c : Byte} (hb : gfMul a b = 1) (hc : gfMul a c = 1) : c = b :=
  calc c = gfMul (gfMul a b) c := by rw [hb, gfMul_one_left]
    _ = gfMul b (gfMul a c) := by rw [gfMul_comm a b, gfMul_assoc]
    _ = b := by rw [hc, gfMul_comm, gfMul_one_left]

/-- Settles O47: the first laws come from the powers of x, and an inverse is unique because the product associates. -/
theorem gfFieldLaws : Obligations.GfFieldLaws :=
  ⟨gfMul_comm, gfMul_xor_right, gfMul_assoc,
    fun a => ⟨gfMul_one_left a, gfMul_zero_left a, BitVec.xor_self⟩,
    fun a ha =>
      have ⟨b, hb⟩ := exists_gfMul_eq_one a (by bv_omega)
      ⟨b, hb, fun _ => eq_of_gfMul_eq_one hb⟩⟩

/-! ## The carry-less product -/

/-- The term bit k of b contributes to a carry-less product. -/
def carrylessTerm (a b k : Nat) : Nat := if b.testBit k then a <<< k else 0

theorem carryless_eq_terms (a b : Nat) :
    Spec.carryless a b = carrylessTerm a b 0 ^^^ carrylessTerm a b 1 ^^^ carrylessTerm a b 2 ^^^ carrylessTerm a b 3 ^^^
      carrylessTerm a b 4 ^^^ carrylessTerm a b 5 ^^^ carrylessTerm a b 6 ^^^ carrylessTerm a b 7 := by
  have hturn : ∀ p k, (if b.testBit k then p ^^^ a <<< k else p) = p ^^^ carrylessTerm a b k := fun p k => by
    unfold carrylessTerm
    split <;> simp
  simp only [Spec.carryless, hturn]
  simp [List.range, List.range.loop]

theorem carrylessTerm_xor (a b b' k : Nat) :
    carrylessTerm a (b ^^^ b') k = carrylessTerm a b k ^^^ carrylessTerm a b' k := by
  unfold carrylessTerm
  rw [Nat.testBit_xor]
  cases b.testBit k <;> cases b'.testBit k <;> simp

theorem carryless_xor (a b b' : Nat) :
    Spec.carryless a (b ^^^ b') = Spec.carryless a b ^^^ Spec.carryless a b' := by
  simp only [carryless_eq_terms, carrylessTerm_xor]
  ac_rfl

@[simp] theorem carryless_zero (a : Nat) : Spec.carryless a 0 = 0 := by
  simpa using carryless_xor a 0 0

/-- A carry-less product with a power of x is a shift. -/
theorem carryless_power (a k : Nat) (hk : k < 8) : Spec.carryless a (gfDouble^[k] 1).toNat = a <<< k := by
  have hterm : ∀ j < 8, carrylessTerm a (gfDouble^[k] 1).toNat j = if j = k then a <<< k else 0 := fun j hj => by
    unfold carrylessTerm
    rw [BitVec.testBit_toNat, iterate_gfDouble_one_getLsbD k hk j hj]
    by_cases h : j = k <;> simp [h]
  rw [carryless_eq_terms]
  simp only [hterm, Nat.reduceLT]
  interval_cases k <;> simp

/-- Shifting a factor below 2^7 shifts the product. -/
theorem carryless_shiftLeft_one (a q : Nat) (hq : q < 2 ^ 7) :
    Spec.carryless a (q <<< 1) = Spec.carryless a q <<< 1 := by
  have hzero : carrylessTerm a (q <<< 1) 0 = 0 := by simp [carrylessTerm]
  have hsucc : ∀ k, carrylessTerm a (q <<< 1) (k + 1) = carrylessTerm a q k <<< 1 := fun k => by
    simp only [carrylessTerm, Nat.testBit_shiftLeft, Nat.le_add_left, decide_true, Bool.true_and, Nat.add_sub_cancel]
    split
    · exact Nat.shiftLeft_add a k 1
    · rfl
  have htop : carrylessTerm a q 7 = 0 := by simp [carrylessTerm, Nat.testBit_lt_two_pow hq]
  rw [carryless_eq_terms, carryless_eq_terms, hzero, htop]
  simp only [hsucc, Nat.shiftLeft_xor_distrib, Nat.zero_xor, Nat.xor_zero]

/-! ## The remainder -/

/-- A number is r plus a multiple of the field's polynomial, with a quotient below the bound (41_galois.md R151). -/
def ReducesTo (bound n : Nat) (r : Byte) : Prop :=
  ∃ q < bound, n = Spec.carryless 0x1C3 q ^^^ r.toNat

theorem ReducesTo.xor {k m n : Nat} {r t : Byte} (hm : ReducesTo (2 ^ k) m r) (hn : ReducesTo (2 ^ k) n t) :
    ReducesTo (2 ^ k) (m ^^^ n) (r ^^^ t) := by
  obtain ⟨p, hp, rfl⟩ := hm
  obtain ⟨q, hq, rfl⟩ := hn
  refine ⟨p ^^^ q, Nat.xor_lt_two_pow hp hq, ?_⟩
  rw [carryless_xor, BitVec.toNat_xor]
  ac_rfl

theorem ReducesTo.mono {bound bound' n : Nat} {r : Byte} (h : ReducesTo bound n r) (hle : bound ≤ bound') :
    ReducesTo bound' n r := by
  obtain ⟨q, hq, hn⟩ := h
  exact ⟨q, hq.trans_le hle, hn⟩

/-- Doubling takes the polynomial away once when a bit is pushed past position 7 (41_galois.md R151). -/
theorem toNat_shiftLeft_one (t : Byte) :
    t.toNat <<< 1 = Spec.carryless 0x1C3 (t.getLsbD 7).toNat ^^^ (gfDouble t).toNat := by
  have hquotient : ∀ bit : Bool, Spec.carryless 0x1C3 bit.toNat = if bit then 0x1C3 else 0 := by decide
  have hbytes : ∀ t : Byte, t.toNat <<< 1 = (if t.getLsbD 7 then 0x1C3 else 0) ^^^ (gfDouble t).toNat := by
    decide +kernel
  rw [hquotient]
  exact hbytes t

/-- After k doublings the shifted copy is the running copy plus a multiple of the polynomial, with a quotient below
2^k. -/
theorem shiftLeft_reducesTo (a : Byte) (k : Nat) (hk : k < 8) :
    ReducesTo (2 ^ k) (a.toNat <<< k) (gfDouble^[k] a) := by
  induction k with
  | zero => exact ⟨0, Nat.one_pos, by simp⟩
  | succ k ih =>
    obtain ⟨q, hq, h⟩ := ih (Nat.lt_of_succ_lt hk)
    have hq7 : q < 2 ^ 7 := hq.trans_le (Nat.pow_le_pow_right (by decide) (by omega))
    have hshift : q <<< 1 < 2 ^ (k + 1) := by rw [Nat.shiftLeft_eq, pow_succ]; omega
    have hbit : ((gfDouble^[k] a).getLsbD 7).toNat < 2 ^ (k + 1) :=
      (Bool.toNat_lt _).trans_le (Nat.pow_le_pow_right (n := 2) (by decide) (Nat.le_add_left 1 k))
    refine ⟨_, Nat.xor_lt_two_pow hshift hbit, ?_⟩
    rw [Nat.shiftLeft_add, h, Nat.shiftLeft_xor_distrib, ← carryless_shiftLeft_one _ q hq7, toNat_shiftLeft_one,
      carryless_xor, Function.iterate_succ_apply', Nat.xor_assoc]

/-- Settles O46, by induction on the bits of b. -/
theorem gfMulIsPolynomialRemainder : Obligations.GfMulIsPolynomialRemainder := by
  intro a b
  show ReducesTo (2 ^ 7) (Spec.carryless a.toNat b.toNat) (gfMul a b)
  induction b using byte_induction with
  | zero => exact ⟨0, by decide, by rw [gfMul_zero_right]; rfl⟩
  | power k hk =>
    rw [carryless_power a.toNat k hk, gfMul_power a k hk]
    exact (shiftLeft_reducesTo a k hk).mono (Nat.pow_le_pow_right (by decide) (by omega))
  | xor x y hx hy =>
    rw [BitVec.toNat_xor, carryless_xor, gfMul_xor_right]
    exact hx.xor hy

/-! ## The commands -/

/-- The completion of a command whose effect writes DOUT_A alone (40_sequencer.md R134, R136). -/
theorem exec_completes_doutA {i j : Instr} {s : State} {b : Block} (heffect : effectOf i s = s.writeDoutA b)
    (hp : s.pend = some j) : exec i s = .next { s with doutA := b, pend := none, done := true } := by
  rw [exec_completes hp, heffect, State.finish, State.writeDoutA]

/-- A one-byte result written out: the byte in lane 0, and lanes 1 to 15 zero (41_galois.md R155, R156). -/
theorem byteResult_eq (v : Byte) : byteResult v = #v[v, 0, 0, 0, 0, 0, 0, 0, 0, 0, 0, 0, 0, 0, 0, 0] := by
  ext i h : 1
  rw [byteResult_lane]
  interval_cases i <;> rfl

/-- The completion of a command whose effect is a one-byte result (41_galois.md R155, R156). -/
theorem exec_completes_byteResult {i j : Instr} {s : State} {v : Byte}
    (heffect : effectOf i s = s.writeDoutA (byteResult v)) (hp : s.pend = some j) :
    exec i s = .next { s with
      doutA := #v[v, 0, 0, 0, 0, 0, 0, 0, 0, 0, 0, 0, 0, 0, 0, 0]
      pend := none
      done := true } := by
  rw [exec_completes_doutA heffect hp, byteResult_eq]

/-- Settles O29: GF_ADD has no check, and its effect writes the sum of the two bytes. -/
theorem gfAddCommand : Obligations.GfAddCommand := by
  refine ⟨fun arg s => ⟨rfl, fun hp => exec_issues (.gfAdd arg) hp, fun hp => ?completes⟩, ?corner, by decide⟩
  case completes => exact exec_completes_byteResult (i := .gfAdd arg) rfl hp
  case corner => exact fun a b => ⟨rfl, BitVec.xor_self, BitVec.xor_zero⟩

/-- Settles O30: GF_MUL has no check, and its effect writes the product of the two bytes; the corner cases are laws of
the field. -/
theorem gfMulCommand : Obligations.GfMulCommand := by
  refine ⟨fun arg s => ⟨rfl, fun hp => exec_issues (.gfMul arg) hp, fun hp => ?completes⟩, ?corner, by decide⟩
  case completes => exact exec_completes_byteResult (i := .gfMul arg) rfl hp
  case corner => exact fun a b => ⟨gfMul_zero_right a, gfMul_zero_left a, gfMul_one_left b, gfMul_comm a b⟩

/-- A block xored with itself is zero (41_galois.md R157). -/
theorem xblk_self (a : Block) : xblk a a = Vector.replicate 16 0 := by
  ext i h : 1
  simp

/-- The zero block changes nothing (41_galois.md R157). -/
theorem xblk_zero (a : Block) : xblk a (Vector.replicate 16 0) = a := by
  ext i h : 1
  simp

/-- Settles O31: BLK_XOR has no check, and its effect writes the lane-wise sum, whose lane i depends on the lanes i
alone. -/
theorem blkXorCommand : Obligations.BlkXorCommand := by
  refine ⟨fun arg s => ⟨rfl, fun hp => exec_issues (.blkXor arg) hp, fun hp => ?completes⟩, fun _ _ => rfl,
    fun a => ⟨xblk_self a, xblk_zero a⟩, ?lanes, by decide⟩
  case completes => exact exec_completes_doutA (i := .blkXor arg) rfl hp
  case lanes =>
    intro a b a' b' i ha hb
    simp only [Fin.getElem_fin, xblk_lane] at ha hb ⊢
    rw [ha, hb]

end Sys2Proof.Machine
end

section
/-! Proofs of the statements about the substitution (42_substitution.md): the two tables are each other's inverse, byte by
byte and lane by lane, and the commands SUB and SUB_INV. -/

namespace Sys2Proof.Machine

/-! ## The tables undo each other -/

/-- The second table undoes the first: R171, checked entry by entry. -/
@[simp] theorem sboxInv_sbox : ∀ x : Byte, sboxInv (sbox x) = x := by decide +kernel

/-- The first table undoes the second: R171, checked entry by entry. -/
@[simp] theorem sbox_sboxInv : ∀ x : Byte, sbox (sboxInv x) = x := by decide +kernel

/-- Lane by lane, `sinvblk` undoes `sblk` (42_substitution.md R172). -/
@[simp] theorem sinvblk_sblk (b : Block) : sinvblk (sblk b) = b := by
  ext i h : 1
  rw [sinvblk_lane, sblk_lane, sboxInv_sbox]

/-- Lane by lane, `sblk` undoes `sinvblk` (42_substitution.md R172, R174). -/
@[simp] theorem sblk_sinvblk (b : Block) : sblk (sinvblk b) = b := by
  ext i h : 1
  rw [sblk_lane, sinvblk_lane, sbox_sboxInv]

/-- Settles O48: the two tables undo each other byte by byte, and so lane by lane. -/
theorem substitutionIsInverted : Obligations.SubstitutionIsInverted :=
  ⟨fun x => ⟨sboxInv_sbox x, sbox_sboxInv x⟩, fun b i => ⟨sblk_lane b i i.isLt, sinvblk_lane b i i.isLt⟩,
    fun b => ⟨sinvblk_sblk b, sblk_sinvblk b⟩, by decide⟩

/-! ## The commands -/

/-- A block of one byte repeated substitutes to its S-box value repeated (42_substitution.md R173). -/
theorem sblk_replicate (x : Byte) : sblk (Vector.replicate 16 x) = Vector.replicate 16 (sbox x) := by
  ext i h : 1
  simp

/-- A block of one byte repeated substitutes back to its inverse S-box value repeated (42_substitution.md R174). -/
theorem sinvblk_replicate (x : Byte) : sinvblk (Vector.replicate 16 x) = Vector.replicate 16 (sboxInv x) := by
  ext i h : 1
  simp

/-- The example of R173, which SUB_INV's own example reads backwards (42_substitution.md R174). -/
theorem sblk_example :
    sblk #v[0xff, 0xee, 0xdd, 0xcc, 0xbb, 0xaa, 0x99, 0x88, 0x11, 0x22, 0x33, 0x44, 0x55, 0x66, 0x77, 0x00] =
      #v[0xb6, 0x6c, 0xd8, 0x88, 0x7d, 0x38, 0xe8, 0xd7, 0x77, 0x65, 0xae, 0xea, 0x0c, 0x9a, 0x7e, 0xfc] := by
  decide

/-- Settles O32: SUB has no check, and its effect writes the S-box of each lane; equal lanes have equal results, since
lane i's result is a function of lane i's byte alone. -/
theorem subCommand : Obligations.SubCommand := by
  refine ⟨fun arg s => ⟨rfl, fun hp => exec_issues (.sub arg) hp, fun hp => ?completes⟩, sblk_replicate 0, ?lanes,
    sblk_example⟩
  case completes => exact exec_completes_doutA (i := .sub arg) rfl hp
  case lanes =>
    intro a i j hij
    simp only [Fin.getElem_fin, sblk_lane] at hij ⊢
    rw [hij]

/-- Settles O33: SUB_INV has no check, and its effect writes the inverse S-box of each lane; its example follows from
SUB's, which it undoes. -/
theorem subInvCommand : Obligations.SubInvCommand := by
  refine ⟨fun arg s => ⟨rfl, fun hp => exec_issues (.subInv arg) hp, fun hp => ?completes⟩, sinvblk_replicate 0,
    sblk_sinvblk, ?sample⟩
  case completes => exact exec_completes_doutA (i := .subInv arg) rfl hp
  case sample => rw [← sblk_example, sinvblk_sblk]

end Sys2Proof.Machine
end

section
/-! Proofs of the statements about the linear transform (43_linear.md): the feedback step and its inverse undo each
other because the last lane enters lcomb with weight 1; all five functions are xor-linear; L is the product with its
matrix because each row, read through one more feedback step, is the row above it; and the commands of the family. -/

namespace Sys2Proof.Machine

/-! ## The feedback step and its inverse -/

/-- The last lane enters lcomb with weight 1, so that replacing it exchanges one byte of the sum (43_linear.md R190,
R201). -/
theorem lcomb_set_last (b : Block) (x : Byte) : lcomb (b.set 15 x) = lcomb b ^^^ b[15] ^^^ x := by
  have hcancel (y : Byte) : y ^^^ b[15] ^^^ b[15] = y := by
    rw [BitVec.xor_assoc, BitVec.xor_self, BitVec.xor_zero]
  simp only [lcomb_eq_sum, gfMul_one_left, hcancel]
  simp

/-- With lcomb itself in the last lane the combination is the lane it replaces. -/
theorem lcomb_set_last_lcomb (b : Block) : lcomb (b.set 15 (lcomb b)) = b[15] := by
  rw [lcomb_set_last, BitVec.xor_comm (lcomb b), BitVec.xor_assoc, BitVec.xor_self, BitVec.xor_zero]

/-- The rotated lanes written out, as R193 concatenates them. -/
theorem rotateLanes_eq (b : Block) : rotateLanes b =
    #v[b[1], b[2], b[3], b[4], b[5], b[6], b[7], b[8], b[9], b[10], b[11], b[12], b[13], b[14], b[15], b[0]] := by
  ext i h : 1
  rw [rotateLanes_lane]
  interval_cases i <;> rfl

/-- The inverse step rotates the lanes and puts lcomb into the last. -/
theorem rstepInv_eq_set (b : Block) : rstepInv b = (rotateLanes b).set 15 (lcomb (rotateLanes b)) := by
  ext i h : 1
  rw [rstepInv_lane, Vector.getElem_set, rotateLanes_lane]
  by_cases hi : i < 15
  · rw [dif_pos hi, if_neg hi.ne', dif_pos hi]
  · rw [dif_neg hi, if_pos (by omega)]

/-- Rotating a step's result takes the step back in every lane but the last. -/
theorem rotateLanes_rstep (b : Block) : rotateLanes (rstep b) = b.set 15 (lcomb b) := by
  ext i h : 1
  rw [rotateLanes_lane, Vector.getElem_set]
  by_cases hi : i < 15
  · rw [dif_pos hi, if_neg hi.ne', rstep_lane_succ]
  · rw [dif_neg hi, if_pos (by omega), rstep_lane_zero]

theorem rstep_rstepInv (b : Block) : rstep (rstepInv b) = b := by
  ext i h : 1
  cases i with
  | zero => rw [rstep_lane_zero, rstepInv_eq_set, lcomb_set_last_lcomb, rotateLanes_lane, dif_neg (by decide)]
  | succ k => rw [rstep_lane_succ, rstepInv_lane, dif_pos (by omega)]

theorem rstepInv_rstep (b : Block) : rstepInv (rstep b) = b := by
  rw [rstepInv_eq_set, rotateLanes_rstep, lcomb_set_last_lcomb, Vector.set_set, Vector.set_getElem_self]

/-- Settles O49: the lanes of both functions are their definitions', and the last lane's weight 1 makes each undo the
other. -/
theorem feedbackStepIsInverted : Obligations.FeedbackStepIsInverted := by
  refine ⟨fun b => ⟨rstep_lane_zero b, fun k h => rstep_lane_succ b k (by omega)⟩,
    fun b => ⟨fun k h => ?shifted, ?closed⟩, fun b => ⟨rstep_rstepInv b, rstepInv_rstep b⟩⟩
  case shifted => rw [rstepInv_lane, dif_pos h]
  case closed => rw [rstepInv_lane, dif_neg (by decide), rotateLanes_eq]

theorem linv_lmap : Function.LeftInverse linv lmap := Function.LeftInverse.iterate rstepInv_rstep 16

theorem lmap_linv : Function.LeftInverse lmap linv := Function.LeftInverse.iterate rstep_rstepInv 16

/-- Settles O50: sixteen steps are undone as each of them is. -/
theorem linearMapIsInverted : Obligations.LinearMapIsInverted := fun x => ⟨linv_lmap x, lmap_linv x⟩

/-! ## Linearity over the exclusive or -/

theorem lcomb_xblk (a b : Block) : lcomb (xblk a b) = lcomb a ^^^ lcomb b := by
  simp only [lcomb_eq_sum, xblk_lane, gfMul_xor_right]
  ac_rfl

theorem rstep_xblk : Function.Semiconj₂ rstep xblk xblk := fun a b => by
  ext i h : 1
  cases i with
  | zero => rw [xblk_lane, rstep_lane_zero, rstep_lane_zero, rstep_lane_zero, lcomb_xblk]
  | succ k => simp only [xblk_lane, rstep_lane_succ]

/-- The inverse step is linear because the step is and has it as its inverse. -/
theorem rstepInv_xblk : Function.Semiconj₂ rstepInv xblk xblk := fun a b =>
  calc rstepInv (xblk a b) = rstepInv (rstep (xblk (rstepInv a) (rstepInv b))) := by
        rw [rstep_xblk.eq, rstep_rstepInv, rstep_rstepInv]
    _ = xblk (rstepInv a) (rstepInv b) := rstepInv_rstep _

theorem lmap_xblk : Function.Semiconj₂ lmap xblk xblk := rstep_xblk.iterate 16

theorem linv_xblk : Function.Semiconj₂ linv xblk xblk := rstepInv_xblk.iterate 16

/-- A linear function takes the zero block to the zero block (43_linear.md R201 to R204). -/
theorem map_zero_of_xblk {f : Block → Block} (hf : Function.Semiconj₂ f xblk xblk) :
    f (Vector.replicate 16 0) = Vector.replicate 16 0 := by
  have h := hf.eq (Vector.replicate 16 0) (Vector.replicate 16 0)
  rwa [xblk_self, xblk_self] at h

/-! ## The matrix -/

/-- A row times a block in GF(2^8) (43_linear.md R197). -/
def rowTimes (row b : Block) : Byte := (List.finRange 16).foldl (fun c j => c ^^^ gfMul row[j] b[j]) 0

theorem rowTimes_eq_sum (row b : Block) :
    rowTimes row b = gfMul row[0] b[0] ^^^ gfMul row[1] b[1] ^^^ gfMul row[2] b[2] ^^^ gfMul row[3] b[3] ^^^
      gfMul row[4] b[4] ^^^ gfMul row[5] b[5] ^^^ gfMul row[6] b[6] ^^^ gfMul row[7] b[7] ^^^ gfMul row[8] b[8] ^^^
      gfMul row[9] b[9] ^^^ gfMul row[10] b[10] ^^^ gfMul row[11] b[11] ^^^ gfMul row[12] b[12] ^^^
      gfMul row[13] b[13] ^^^ gfMul row[14] b[14] ^^^ gfMul row[15] b[15] := by
  have h : List.finRange 16 = [0, 1, 2, 3, 4, 5, 6, 7, 8, 9, 10, 11, 12, 13, 14, 15] := rfl
  unfold rowTimes
  rw [h]
  simp

/-- lcomb is the row of the multipliers (43_linear.md R191). -/
theorem lcomb_eq_rowTimes (b : Block) : lcomb b = rowTimes multipliers b := rfl

theorem unitBlock_lane (j : Fin 16) (k : Nat) (h : k < 16) : (Spec.unitBlock j)[k] = if k = j then 1 else 0 := by
  simp [Spec.unitBlock, Fin.ext_iff]

/-- A row times a unit block is the row's entry. -/
theorem rowTimes_unitBlock (row : Block) (j : Fin 16) : rowTimes row (Spec.unitBlock j) = row[j] := by
  have hterm (k : Nat) (h : k < 16) : gfMul row[k] (Spec.unitBlock j)[k] = if k = j then row[k] else 0 := by
    rw [unitBlock_lane]
    split
    · rw [gfMul_comm, gfMul_one_left]
    · rw [gfMul_zero_right]
  rw [rowTimes_eq_sum]
  simp only [hterm]
  fin_cases j <;> simp

/-- The row whose product with a block is the given row's product with the block one feedback step later. -/
def rowThroughStep (row : Block) : Block :=
  Vector.ofFn fun j => gfMul row[0] multipliers[j] ^^^ if h : j.val < 15 then row[j.val + 1] else 0

theorem rowThroughStep_lane (row : Block) (k : Nat) (h : k < 16) :
    (rowThroughStep row)[k] = gfMul row[0] multipliers[k] ^^^ if h' : k < 15 then row[k + 1] else 0 := by
  simp [rowThroughStep]

/-- Lane k of the block meets the row twice: in lcomb, which lane 0 of the row weighs, and moved up to lane k + 1. -/
theorem rowTimes_rstep (row b : Block) : rowTimes row (rstep b) = rowTimes (rowThroughStep row) b := by
  simp only [rowTimes_eq_sum, rstep_lane_zero, rstep_lane_succ, lcomb_eq_rowTimes, rowThroughStep_lane, reduceDIte,
    Nat.reduceLT, Nat.reduceAdd, gfMul_xor_left, gfMul_xor_right, gfMul_zero_left, ← gfMul_assoc]
  ac_rfl

theorem matrixL_last : Spec.matrixL.getD 15 Block.zero = multipliers := by decide

/-- Going up the spec's matrix, each row is the row below it read through one more feedback step. -/
theorem matrixL_row : ∀ i < 15,
    Spec.matrixL.getD i Block.zero = rowThroughStep (Spec.matrixL.getD (i + 1) Block.zero) := by
  decide +kernel

/-- The combination after k feedback steps is row 15 - k of the matrix. -/
theorem lcomb_iterate_rstep (k : Nat) (hk : k < 16) (b : Block) :
    lcomb (rstep^[k] b) = rowTimes (Spec.matrixL.getD (15 - k) Block.zero) b := by
  induction k generalizing b with
  | zero => rw [Nat.sub_zero, matrixL_last, Function.iterate_zero_apply, lcomb_eq_rowTimes]
  | succ k ih =>
    have hbelow : 15 - (k + 1) + 1 = 15 - k := by omega
    rw [Function.iterate_succ_apply, ih (by omega), rowTimes_rstep, matrixL_row (15 - (k + 1)) (by omega), hbelow]

/-- Once made, a combination moves up one lane with every further step. -/
theorem iterate_rstep_lane (m i : Nat) (h : i < 16) (b : Block) :
    (rstep^[m + 1 + i] b)[i] = lcomb (rstep^[m] b) := by
  induction i with
  | zero => rw [Nat.add_zero, Function.iterate_succ_apply', rstep_lane_zero]
  | succ i ih => rw [← Nat.add_assoc, Function.iterate_succ_apply', rstep_lane_succ, ih]

/-- L lane by lane: row i of the spec's matrix times the block (43_linear.md R197). -/
theorem lmap_lane (b : Block) (i : Nat) (h : i < 16) :
    (lmap b)[i] = rowTimes (Spec.matrixL.getD i Block.zero) b := by
  have hsteps : 15 - i + 1 + i = 16 := by omega
  have hrow : 15 - (15 - i) = i := by omega
  have hlane := iterate_rstep_lane (15 - i) i h b
  rw [lcomb_iterate_rstep _ (by omega), hrow] at hlane
  simpa only [lmap, hsteps] using hlane

/-- L of a block as its product with the matrix, which the kernel evaluates faster than sixteen steps. -/
theorem lmap_eq_matrix (b : Block) :
    lmap b = Vector.ofFn fun i => rowTimes (Spec.matrixL.getD i.val Block.zero) b := by
  ext i h : 1
  rw [Vector.getElem_ofFn, lmap_lane]

/-- Settles O51: a lane of L is a row of the matrix times the block, and on a unit block the row's entry. -/
theorem linearMapIsTheMatrix : Obligations.LinearMapIsTheMatrix := by
  refine ⟨fun a b => ⟨lcomb_xblk a b, rstep_xblk a b, rstepInv_xblk a b, lmap_xblk a b, linv_xblk a b⟩,
    fun i j => ?entry, fun b i => lmap_lane b i i.isLt⟩
  case entry => exact ((lmap_lane (Spec.unitBlock j) i i.isLt).trans (rowTimes_unitBlock _ j)).symm

/-! ## The commands -/

/-- Settles O34: LCOMB has no check, and its effect writes the combination into lane 0. -/
theorem lcombCommand : Obligations.LcombCommand := by
  refine ⟨fun arg s => ⟨rfl, fun hp => exec_issues (.lcomb arg) hp, fun hp => ?completes⟩, ?units,
    by decide +kernel⟩
  case completes => exact exec_completes_byteResult (i := .lcomb arg) rfl hp
  case units => exact fun i => rowTimes_unitBlock multipliers i

/-- A new last lane reaches a feedback step's result in lane 0 alone, with weight 1 (43_linear.md R201). -/
theorem rstep_set_last (a : Block) (x : Byte) :
    rstep (a.set 15 x) = (rstep a).set 0 ((rstep a)[0] ^^^ a[15] ^^^ x) := by
  ext i h : 1
  cases i with
  | zero => rw [Vector.getElem_set_self, rstep_lane_zero, rstep_lane_zero, lcomb_set_last]
  | succ k =>
    have hk : 15 ≠ k := by omega
    rw [rstep_lane_succ, Vector.getElem_set_ne _ _ hk, Vector.getElem_set_ne _ _ k.succ_ne_zero.symm, rstep_lane_succ]

/-- Settles O35: RSTEP has no check, and its effect writes one feedback step of DIN_A. -/
theorem rstepCommand : Obligations.RstepCommand := by
  refine ⟨fun arg s => ⟨rfl, fun hp => exec_issues (.rstep arg) hp, fun hp => ?completes⟩,
    map_zero_of_xblk rstep_xblk, rstep_set_last, by decide +kernel⟩
  case completes => exact exec_completes_doutA (i := .rstep arg) rfl hp

/-- Settles O36: RSTEP_INV has no check, and its effect writes one inverse step of DIN_A. -/
theorem rstepInvCommand : Obligations.RstepInvCommand := by
  refine ⟨fun arg s => ⟨rfl, fun hp => exec_issues (.rstepInv arg) hp, fun hp => ?completes⟩,
    map_zero_of_xblk rstepInv_xblk, rstep_rstepInv, by decide +kernel⟩
  case completes => exact exec_completes_doutA (i := .rstepInv arg) rfl hp

/-- The example of R203, which LIN_INV's own example reads backwards (43_linear.md R204). -/
theorem lmap_example :
    lmap #v[0x64, 0xa5, 0x94, 0x00, 0x00, 0x00, 0x00, 0x00, 0x00, 0x00, 0x00, 0x00, 0x00, 0x00, 0x00, 0x00] =
      #v[0xd4, 0x56, 0x58, 0x4d, 0xd0, 0xe3, 0xe8, 0x4c, 0xc3, 0x16, 0x6e, 0x4b, 0x7f, 0xa2, 0x89, 0x0d] := by
  rw [lmap_eq_matrix]
  decide +kernel

/-- Settles O37: LIN has no check, and its effect writes L of DIN_A; its values are products with the matrix. -/
theorem linCommand : Obligations.LinCommand := by
  refine ⟨fun arg s => ⟨rfl, fun hp => exec_issues (.lin arg) hp, fun hp => ?completes⟩,
    map_zero_of_xblk lmap_xblk, ?one, ?ones, lmap_example⟩
  case completes => exact exec_completes_doutA (i := .lin arg) rfl hp
  case one | ones =>
    rw [lmap_eq_matrix]
    decide +kernel

theorem linv_eq_of_lmap_eq {x y : Block} (h : lmap x = y) : linv y = x := by rw [← h, linv_lmap]

/-- Settles O38: LIN_INV has no check, and its effect writes the inverse of L of DIN_A; its values are those that L
takes back. -/
theorem linInvCommand : Obligations.LinInvCommand := by
  refine ⟨fun arg s => ⟨rfl, fun hp => exec_issues (.linInv arg) hp, fun hp => ?completes⟩,
    map_zero_of_xblk linv_xblk, lmap_linv, linv_eq_of_lmap_eq ?ones, linv_eq_of_lmap_eq lmap_example⟩
  case completes => exact exec_completes_doutA (i := .linInv arg) rfl hp
  case ones =>
    rw [lmap_eq_matrix]
    decide +kernel

end Sys2Proof.Machine
end

section
/-! Proofs of the statements about the key schedule (44_keyschedule.md): the sequence of pairs that the 32 Feistel
rounds run through, the table of the round constants, the commands RCON, FEISTEL and EXPAND_KEY, and the official
vector. -/

namespace Sys2Proof.Machine

/-! ## The sequence of pairs -/

/-- The pair after k Feistel rounds on the halves of the key (44_keyschedule.md R222). -/
def schedulePair (key : KeyBytes) : Nat → Block × Block
  | 0 => (keyLeft key, keyRight key)
  | k + 1 => feistel (roundConstant (k + 1)) (schedulePair key k).1 (schedulePair key k).2

theorem foldl_feistel_schedulePair (key : KeyBytes) (m n : Nat) :
    (List.range n).foldl (fun p j => feistel (roundConstant (m + j + 1)) p.1 p.2) (schedulePair key m) =
      schedulePair key (m + n) := by
  induction n with
  | zero => rfl
  | succ n ih => rw [List.range_succ, List.foldl_append, ih]; rfl

/-- An outer iteration of the expansion is eight rounds of the sequence. -/
theorem feistelRounds_schedulePair (key : KeyBytes) (i : Nat) :
    feistelRounds i (schedulePair key (8 * i)) = schedulePair key (8 * (i + 1)) :=
  foldl_feistel_schedulePair key (8 * i) 8

/-- The round keys are the pairs after 0, 8, 16, 24 and 32 rounds (44_keyschedule.md R222, R223). -/
theorem expand_eq_schedulePair (key : KeyBytes) : expand key =
    #v[(schedulePair key 0).1, (schedulePair key 0).2, (schedulePair key 8).1, (schedulePair key 8).2,
      (schedulePair key 16).1, (schedulePair key 16).2, (schedulePair key 24).1, (schedulePair key 24).2,
      (schedulePair key 32).1, (schedulePair key 32).2] := by
  have h0 : feistelRounds 0 (keyLeft key, keyRight key) = schedulePair key 8 := feistelRounds_schedulePair key 0
  have h1 : feistelRounds 1 (schedulePair key 8) = schedulePair key 16 := feistelRounds_schedulePair key 1
  have h2 : feistelRounds 2 (schedulePair key 16) = schedulePair key 24 := feistelRounds_schedulePair key 2
  have h3 : feistelRounds 3 (schedulePair key 24) = schedulePair key 32 := feistelRounds_schedulePair key 3
  simp only [expand, h0, h1, h2, h3]
  rfl

/-- Round keys 2i and 2i + 1 are the pair after 8i rounds (44_keyschedule.md R222). -/
theorem expand_getElem_pair (key : KeyBytes) (i : Nat) (h : i < 5) :
    (expand key)[2 * i] = (schedulePair key (8 * i)).1 ∧ (expand key)[2 * i + 1] = (schedulePair key (8 * i)).2 := by
  rw [expand_eq_schedulePair]
  interval_cases i <;> exact ⟨rfl, rfl⟩

/-- Settles O54: the sequence starts with the halves of the key, steps by one Feistel round, and gives the round keys
at every eighth step. -/
theorem scheduleRunsInOrder : Obligations.ScheduleRunsInOrder :=
  fun key => ⟨schedulePair key, fun j h => ⟨keyLeft_lane key j h, keyRight_lane key j h⟩, fun _ _ => rfl,
    expand_getElem_pair key⟩

/-! ## The round constants -/

/-- The spec's table, checked constant by constant through the matrix of L (44_keyschedule.md R220). -/
theorem roundConstants_eq_table : (List.range 32).map (fun i => roundConstant (i + 1)) = Spec.constantTable := by
  simp only [roundConstant, lmap_eq_matrix]
  decide +kernel

/-- Settles O52: the table is checked by evaluation, and rc(i) is lmap of be128(i) by definition. -/
theorem roundConstantsAreTheTable : Obligations.RoundConstantsAreTheTable :=
  ⟨roundConstants_eq_table, fun _ _ _ => rfl⟩

/-- A round constant looked up in the spec's table. -/
theorem roundConstant_eq_getElem {k : Nat} (h : k < Spec.constantTable.length) :
    roundConstant (k + 1) = Spec.constantTable[k] := by
  simp only [← roundConstants_eq_table, List.getElem_map, List.getElem_range]

/-! ## The issue of a command with checks of its own -/

/-- A command none of whose own checks fails is accepted (40_sequencer.md R130). -/
theorem exec_accepts {i : Instr} {s : State} (hp : s.pend = none) (h : Spec.ownError i s = none) :
    exec i s = .next { s with pend := some i } := by
  rw [ownError_eq_firstFailure, Option.map_eq_none_iff] at h
  rw [exec_issues i hp, h]
  rfl

/-- A command is rejected with the code of its own first failing check (40_sequencer.md R130, R131). -/
theorem exec_rejects {i : Instr} {s : State} {c : Byte} (hp : s.pend = none) (h : Spec.ownError i s = some c) :
    exec i s = .next { Spec.recorded c s with done := true } := by
  rw [ownError_eq_firstFailure, Option.map_eq_some_iff] at h
  obtain ⟨e, he, rfl⟩ := h
  rw [exec_issues i hp, he]
  rfl

/-! ## The commands -/

/-- Settles O39: the range of ARG is RCON's one check, and its effect writes the constant of that index; the examples
are the first and the last entry of the table. -/
theorem rconCommand : Obligations.RconCommand := by
  refine ⟨fun arg s => ⟨rfl, fun hp hlow hhigh => ?accepts, fun hp hout => ?rejects, fun hp _ _ => ?completes⟩,
    roundConstant_eq_getElem (k := 0) (by decide), roundConstant_eq_getElem (k := 31) (by decide)⟩
  case accepts => exact exec_accepts hp (if_neg (by omega))
  case rejects => exact exec_rejects hp (if_pos hout)
  case completes => exact exec_completes_doutA (i := .rcon arg) rfl hp

/-- Adding a block twice changes nothing (41_galois.md R153). -/
theorem xblk_xblk_cancel (a b : Block) : xblk a (xblk a b) = b := by
  ext i h : 1
  rw [xblk_lane, xblk_lane, ← BitVec.xor_assoc, BitVec.xor_self, BitVec.zero_xor]

/-- Settles O40: FEISTEL has no check, and its effect writes both results of one round; a second round adds the same
block to the half that the first one changed. -/
theorem feistelCommand : Obligations.FeistelCommand := by
  refine ⟨fun arg s => ⟨rfl, fun hp => exec_issues (.feistel arg) hp, fun hp => ?completes⟩,
    fun c l r => ?undo, fun c r => ?equal, ?sample⟩
  case completes => rw [exec_completes hp, effectOf, State.finish, State.writeDoutAB, feistel]
  case undo => rw [feistel, feistel, xblk_xblk_cancel]
  case equal =>
    rw [feistel, xblk_self, sblk_replicate]
    rfl
  case sample =>
    rw [feistel, lmap_eq_matrix]
    decide +kernel

/-- Settles O41: EXPAND_KEY has no check, and its effect writes RK, KV and CTRV; the first two round keys are the
halves of KEY. -/
theorem expandKeyCommand : Obligations.ExpandKeyCommand := by
  refine ⟨fun arg s => ⟨rfl, fun hp => exec_issues (.expandKey arg) hp, fun hp => ?completes⟩,
    fun key j => ⟨?left, ?right⟩⟩
  case completes => rw [exec_completes hp, effectOf, State.finish, State.writeSchedule]
  case left =>
    rw [expand_eq_schedulePair]
    exact keyLeft_lane key j j.isLt
  case right =>
    rw [expand_eq_schedulePair]
    exact keyRight_lane key j j.isLt

/-! ## Decryption undoes encryption -/

/-- Steps undone one by one in reverse order are undone as a whole. -/
theorem foldl_reverse_foldl {α β : Type} {f g : β → α → β} (h : ∀ b a, g (f b a) a = b) (as : List α)
    (b : β) : as.reverse.foldl g (as.foldl f b) = b := by
  induction as generalizing b with
  | nil => rfl
  | cons a as ih => rw [List.foldl_cons, List.reverse_cons, List.foldl_append, ih]; exact h b a

theorem decryptRound_encryptRound (k b : Block) : decryptRound k (encryptRound k b) = b := by
  rw [decryptRound, encryptRound, linv_lmap, sinvblk_sblk, xblk_xblk_cancel]

/-- Decryption undoes encryption (45_blockcipher.md R242). -/
theorem decrypt_encrypt (ks : RoundKeys) (b : Block) : decrypt ks (encrypt ks b) = b := by
  rw [decrypt, encrypt, xblk_xblk_cancel, foldl_reverse_foldl]
  exact fun b r => decryptRound_encryptRound ks[r.val] b

/-! ## The official vector -/

/-- The key of the official vector (95_test_vectors.md V1). -/
def officialKey : KeyBytes :=
  #v[0x88, 0x99, 0xaa, 0xbb, 0xcc, 0xdd, 0xee, 0xff, 0x00, 0x11, 0x22, 0x33, 0x44, 0x55, 0x66, 0x77,
    0xfe, 0xdc, 0xba, 0x98, 0x76, 0x54, 0x32, 0x10, 0x01, 0x23, 0x45, 0x67, 0x89, 0xab, 0xcd, 0xef]

/-- The schedule of the official key (95_test_vectors.md V14). -/
def officialSchedule : RoundKeys :=
  #v[#v[0x88, 0x99, 0xaa, 0xbb, 0xcc, 0xdd, 0xee, 0xff, 0x00, 0x11, 0x22, 0x33, 0x44, 0x55, 0x66, 0x77],
    #v[0xfe, 0xdc, 0xba, 0x98, 0x76, 0x54, 0x32, 0x10, 0x01, 0x23, 0x45, 0x67, 0x89, 0xab, 0xcd, 0xef],
    #v[0xdb, 0x31, 0x48, 0x53, 0x15, 0x69, 0x43, 0x43, 0x22, 0x8d, 0x6a, 0xef, 0x8c, 0xc7, 0x8c, 0x44],
    #v[0x3d, 0x45, 0x53, 0xd8, 0xe9, 0xcf, 0xec, 0x68, 0x15, 0xeb, 0xad, 0xc4, 0x0a, 0x9f, 0xfd, 0x04],
    #v[0x57, 0x64, 0x64, 0x68, 0xc4, 0x4a, 0x5e, 0x28, 0xd3, 0xe5, 0x92, 0x46, 0xf4, 0x29, 0xf1, 0xac],
    #v[0xbd, 0x07, 0x94, 0x35, 0x16, 0x5c, 0x64, 0x32, 0xb5, 0x32, 0xe8, 0x28, 0x34, 0xda, 0x58, 0x1b],
    #v[0x51, 0xe6, 0x40, 0x75, 0x7e, 0x87, 0x45, 0xde, 0x70, 0x57, 0x27, 0x26, 0x5a, 0x00, 0x98, 0xb1],
    #v[0x5a, 0x79, 0x25, 0x01, 0x7b, 0x9f, 0xdd, 0x3e, 0xd7, 0x2a, 0x91, 0xa2, 0x22, 0x86, 0xf9, 0x84],
    #v[0xbb, 0x44, 0xe2, 0x53, 0x78, 0xc7, 0x31, 0x23, 0xa5, 0xf3, 0x2f, 0x73, 0xcd, 0xb6, 0xe5, 0x17],
    #v[0x72, 0xe9, 0xdd, 0x74, 0x16, 0xbc, 0xf4, 0x5b, 0x75, 0x5d, 0xba, 0xa8, 0x8e, 0x4a, 0x40, 0x43]]

/-- An outer iteration of the expansion with its constants taken from the spec's table. -/
theorem feistelRounds_eq_table {i : Nat} (hi : i < 4) (lr : Block × Block) :
    feistelRounds i lr =
      (List.range 8).foldl (fun p j => feistel (Spec.constantTable.getD (8 * i + j) Block.zero) p.1 p.2) lr := by
  refine List.foldl_ext _ _ _ fun p j hj => ?_
  rw [List.mem_range] at hj
  have h : 8 * i + j < Spec.constantTable.length := show 8 * i + j < 32 by omega
  rw [roundConstant_eq_getElem h, List.getD_eq_getElem _ _ h]

/-- Each outer iteration takes a pair of the official schedule to the next pair (95_test_vectors.md V14). -/
theorem feistelRounds_officialSchedule (i : Nat) (hi : i < 4) :
    feistelRounds i (officialSchedule[2 * i], officialSchedule[2 * i + 1]) =
      (officialSchedule[2 * i + 2], officialSchedule[2 * i + 3]) := by
  rw [feistelRounds_eq_table hi]
  simp only [feistel, lmap_eq_matrix]
  revert i
  decide +kernel

theorem schedulePair_officialKey (i : Nat) (hi : i < 5) :
    schedulePair officialKey (8 * i) = (officialSchedule[2 * i], officialSchedule[2 * i + 1]) := by
  induction i with
  | zero => rfl
  | succ i ih =>
    rw [← feistelRounds_schedulePair, ih (by omega)]
    exact feistelRounds_officialSchedule i (by omega)

/-- The official key's schedule is the one listed (95_test_vectors.md V14). -/
theorem expand_officialKey : expand officialKey = officialSchedule := by
  ext k h : 1
  obtain ⟨i, rfl | rfl⟩ := Nat.even_or_odd' k
  · rw [(expand_getElem_pair officialKey i (by omega)).1, schedulePair_officialKey i (by omega)]
  · rw [(expand_getElem_pair officialKey i (by omega)).2, schedulePair_officialKey i (by omega)]

/-- The official plaintext encrypts to the official ciphertext (95_test_vectors.md V1). -/
theorem encrypt_officialSchedule :
    encrypt officialSchedule
        #v[0x11, 0x22, 0x33, 0x44, 0x55, 0x66, 0x77, 0x00, 0xff, 0xee, 0xdd, 0xcc, 0xbb, 0xaa, 0x99, 0x88] =
      #v[0x7f, 0x67, 0x9d, 0x90, 0xbe, 0xbc, 0x24, 0x30, 0x5a, 0x46, 0x8d, 0x42, 0xb9, 0xd4, 0xed, 0xcd] := by
  simp only [encrypt, encryptRound, lmap_eq_matrix]
  decide +kernel

/-- Settles O58: the schedule and the encryption are checked by evaluation, and the decryption undoes the encryption. -/
theorem officialVectors : Obligations.OfficialVectors := by
  unfold Obligations.OfficialVectors
  intro ks
  have hks : ks = officialSchedule := expand_officialKey
  have hencrypt := encrypt_officialSchedule
  rw [hks]
  refine ⟨rfl, rfl, hencrypt, ?decrypts⟩
  case decrypts => rw [← hencrypt, decrypt_encrypt]

end Sys2Proof.Machine
end

section
/-! Proofs of the statements about the block cipher (45_blockcipher.md): each round undoes its counterpart, so the two
directions undo each other; the blocks between the rounds; and the commands ENC_BLOCK and DEC_BLOCK. -/

namespace Sys2Proof.Machine

/-! ## Encryption undoes decryption -/

theorem encryptRound_decryptRound (k b : Block) : encryptRound k (decryptRound k b) = b := by
  rw [encryptRound, decryptRound, xblk_xblk_cancel, sblk_sinvblk, lmap_linv]

/-- Steps taken in reverse order are undone as a whole by undoing them in order. -/
theorem foldl_foldl_reverse {α β : Type} {f g : β → α → β} (h : ∀ b a, g (f b a) a = b) (as : List α)
    (b : β) : as.foldl g (as.reverse.foldl f b) = b := by
  have hreverse := foldl_reverse_foldl h as.reverse b
  rwa [List.reverse_reverse] at hreverse

/-- Encryption undoes decryption (45_blockcipher.md R242). -/
theorem encrypt_decrypt (ks : RoundKeys) (b : Block) : encrypt ks (decrypt ks b) = b := by
  rw [encrypt, decrypt, foldl_foldl_reverse, xblk_xblk_cancel]
  exact fun b r => encryptRound_decryptRound ks[r.val] b

/-- Settles O55: the rounds undo each other in either order. -/
theorem decryptInvertsEncrypt : Obligations.DecryptInvertsEncrypt :=
  fun ks x => ⟨decrypt_encrypt ks x, encrypt_decrypt ks x⟩

/-! ## The blocks between the rounds -/

/-- The block after the first r rounds of `encrypt` (45_blockcipher.md R240). -/
def blockAfterRounds (ks : RoundKeys) (b : Block) (r : Nat) : Block :=
  ((List.finRange 9).take r).foldl (fun b r => encryptRound ks[r.val] b) b

theorem blockAfterRounds_zero (ks : RoundKeys) (b : Block) : blockAfterRounds ks b 0 = b := rfl

theorem blockAfterRounds_succ (ks : RoundKeys) (b : Block) (r : Nat) (h : r < 9) :
    blockAfterRounds ks b (r + 1) = encryptRound ks[r] (blockAfterRounds ks b r) := by
  have hlength : r < (List.finRange 9).length := by rwa [List.length_finRange]
  rw [blockAfterRounds, List.take_succ_eq_append_getElem hlength, List.foldl_append, List.getElem_finRange]
  rfl

/-- `encrypt` is the final XOR of the block after all nine rounds (45_blockcipher.md R240). -/
theorem encrypt_eq_blockAfterRounds (ks : RoundKeys) (b : Block) :
    encrypt ks b = xblk ks[9] (blockAfterRounds ks b 9) := rfl

/-- Read backwards, a round of the encryption is a round of the decryption (45_blockcipher.md R241). -/
theorem blockAfterRounds_eq_decryptRound (ks : RoundKeys) (b : Block) (r : Nat) (h : r < 9) :
    blockAfterRounds ks b r = decryptRound ks[r] (blockAfterRounds ks b (r + 1)) := by
  rw [blockAfterRounds_succ ks b r h, decryptRound_encryptRound]

/-- The encryption of `decrypt ks b`, whose result is b, has b with the final XOR undone after its nine rounds. -/
theorem blockAfterRounds_decrypt (ks : RoundKeys) (b : Block) :
    blockAfterRounds ks (decrypt ks b) 9 = xblk ks[9] b := by
  have hresult := encrypt_decrypt ks b
  rw [encrypt_eq_blockAfterRounds] at hresult
  rw [← xblk_xblk_cancel ks[9] (blockAfterRounds ks (decrypt ks b) 9), hresult]

/-- Settles O53: the blocks between the rounds of encrypt; and those of decrypt are the blocks of the encryption that it
undoes, read backwards. -/
theorem roundsRunInOrder : Obligations.RoundsRunInOrder := fun ks b =>
  ⟨⟨blockAfterRounds ks b, blockAfterRounds_zero ks b, blockAfterRounds_succ ks b, encrypt_eq_blockAfterRounds ks b⟩,
    ⟨blockAfterRounds ks (decrypt ks b), blockAfterRounds_decrypt ks b,
      blockAfterRounds_eq_decryptRound ks (decrypt ks b), (blockAfterRounds_zero ks (decrypt ks b)).symm⟩⟩

/-! ## The commands -/

/-- Settles O42: the key is ENC_BLOCK's one check, and its effect writes the encryption of DIN_A. -/
theorem encBlockCommand : Obligations.EncBlockCommand := by
  refine fun arg s => ⟨rfl, fun hp hkv => ?accepts, fun hp hkv => ?rejects, fun hp => ?completes⟩
  case accepts => exact exec_accepts hp (if_neg (ne_false_of_eq_true hkv))
  case rejects => exact exec_rejects hp (if_pos hkv)
  case completes => exact exec_completes_doutA (i := .encBlock arg) rfl hp

/-- Settles O43: the key is DEC_BLOCK's one check, and its effect writes the decryption of DIN_A. -/
theorem decBlockCommand : Obligations.DecBlockCommand := by
  refine fun arg s => ⟨rfl, fun hp hkv => ?accepts, fun hp hkv => ?rejects, fun hp => ?completes⟩
  case accepts => exact exec_accepts hp (if_neg (ne_false_of_eq_true hkv))
  case rejects => exact exec_rejects hp (if_pos hkv)
  case completes => exact exec_completes_doutA (i := .decBlock arg) rfl hp

end Sys2Proof.Machine
end

section
/-! Proofs of the statements about the counter mode (46_counter.md): the number a block encodes and the counters of a
stream; the commands CTR_INIT and CTR_CHUNK; the outputs of a stream as a function of the schedule, the first counter
and the chunks, which is its own inverse; and the run of the block that gives these outputs. -/

namespace Sys2Proof.Machine

/-! ## The number a block encodes -/

/-- The m lowest base-256 digits of a number, the most significant first, add up to it modulo 256^m
(00_scope.md R12). -/
theorem sum_digits (m n : Nat) :
    ((List.finRange m).map fun i => n / 256 ^ (m - 1 - i.val) % 256 * 256 ^ (m - 1 - i.val)).sum = n % 256 ^ m := by
  induction m with
  | zero => rw [List.finRange_zero, List.map_nil, List.sum_nil, pow_zero, Nat.mod_one]
  | succ m ih =>
    have htail (i : Fin m) : m - i.succ.val = m - 1 - i.val := by rw [Fin.val_succ]; omega
    rw [List.finRange_succ, List.map_cons, List.sum_cons, List.map_map, Nat.mod_pow_succ, ← ih]
    simp only [Function.comp_def, Nat.add_sub_cancel, htail, Fin.val_zero, Nat.sub_zero]
    ring

/-- `be128` encodes every number modulo 2^128 (00_scope.md R12). -/
theorem int128_be128 (n : Nat) : int128 (be128 n) = n % 2 ^ 128 := by
  simp only [int128, be128_lane, Fin.getElem_fin, BitVec.toNat_ofNat]
  exact sum_digits 16 n

/-- The lanes of a block as base-256 digits, the least significant first. -/
def laneDigits (b : Block) (k : Fin 16) : Fin 256 := b[k.rev].toFin

theorem int128_eq_digits (b : Block) : int128 b = finFunctionFinEquiv (laneDigits b) := by
  have hsum : int128 b = ∑ i : Fin 16, b[i].toNat * 256 ^ (15 - i.val) := (Fin.sum_univ_def _).symm
  have hrev (k : Fin 16) : 15 - (Fin.revPerm k).val = k.val := by rw [Fin.revPerm_apply, Fin.val_rev]; omega
  rw [hsum, finFunctionFinEquiv_apply, ← Equiv.sum_comp Fin.revPerm]
  simp only [hrev]
  rfl

/-- A block encodes a number below 2^128 (00_scope.md R12). -/
theorem int128_lt (b : Block) : int128 b < 2 ^ 128 := by
  rw [int128_eq_digits]
  exact (finFunctionFinEquiv (laneDigits b)).isLt

/-- Blocks that encode one number are equal (00_scope.md R12). -/
theorem int128_injective : Function.Injective int128 := by
  intro a b hab
  rw [int128_eq_digits, int128_eq_digits] at hab
  have hdigits : laneDigits a = laneDigits b := finFunctionFinEquiv.injective (Fin.ext hab)
  ext i h : 1
  have hlane := congrFun hdigits (Fin.rev ⟨i, h⟩)
  simp only [laneDigits, Fin.rev_rev] at hlane
  exact BitVec.toFin_injective hlane

/-! ## The counters of a stream -/

theorem finRange_sixteen :
    List.finRange 16 = (List.finRange 8).map (Fin.castAdd 8) ++ (List.finRange 8).map (Fin.natAdd 8) := by
  decide

/-- The number a block encodes, from the lanes of its two halves. -/
theorem int128_halves (b : Block) : int128 b =
    ((List.finRange 8).map fun i => b[i.val].toNat * 256 ^ (15 - i.val)).sum +
      ((List.finRange 8).map fun i => b[8 + i.val].toNat * 256 ^ (7 - i.val)).sum := by
  have hlow (i : Fin 8) : 15 - (Fin.natAdd 8 i).val = 7 - i.val := by rw [Fin.val_natAdd]; omega
  rw [int128, finRange_sixteen, List.map_append, List.sum_append, List.map_map, List.map_map]
  simp only [Function.comp_def, hlow]
  rfl

/-- The first counter of a stream is IV times 2^64 (46_counter.md R260). -/
theorem int128_ctr0 (iv : IvBytes) : int128 (ctr0 iv) = int64 iv * 2 ^ 64 := by
  have hpow (i : Fin 8) : 256 ^ (15 - i.val) = 256 ^ (7 - i.val) * 2 ^ 64 := by
    rw [show 15 - i.val = 7 - i.val + 8 by omega, pow_add]
    norm_num
  have hhigh (i : Fin 8) : (ctr0 iv)[i.val].toNat * 256 ^ (15 - i.val) =
      iv[i].toNat * 256 ^ (7 - i.val) * 2 ^ 64 := by
    rw [ctr0_lane iv i (by omega), dif_pos i.isLt, hpow, Nat.mul_assoc]
    rfl
  have hlow (i : Fin 8) : (ctr0 iv)[8 + i.val].toNat * 256 ^ (7 - i.val) = 0 := by
    rw [ctr0_lane iv (8 + i) (by omega), dif_neg (by omega)]
    exact Nat.zero_mul _
  rw [int128_halves, int64]
  simp only [hhigh, hlow, List.sum_map_mul_right]
  rw [List.map_const', List.sum_replicate, smul_zero, add_zero]

/-- Counting up i times adds i to the number the counter encodes, modulo 2^128 (46_counter.md R261). -/
theorem int128_iterate_ctrInc (c : Block) (i : Nat) : int128 (ctrInc^[i] c) = (int128 c + i) % 2 ^ 128 := by
  induction i with
  | zero => rw [Function.iterate_zero_apply, Nat.add_zero, Nat.mod_eq_of_lt (int128_lt c)]
  | succ i ih =>
    rw [Function.iterate_succ_apply', ctrInc, int128_be128, Nat.mod_mod, ih, Nat.mod_add_mod, Nat.add_assoc]

/-- Settles O56: a counter is told by the number it encodes, which starts at IV times 2^64 and goes up by one. -/
theorem counterCountsChunks : Obligations.CounterCountsChunks := by
  refine ⟨int128_ctr0, fun iv j => ctr0_lane iv j j.isLt, fun _ => rfl, fun iv i => int128_injective ?counts,
    int128_be128, by decide⟩
  case counts => rw [int128_iterate_ctrInc, int128_ctr0, int128_be128, Nat.mod_mod]

/-! ## The commands -/

/-- The completion of CTR_INIT (46_counter.md R265). -/
theorem exec_completes_ctrInit {arg : Byte} {j : Instr} {s : State} (hp : s.pend = some j) :
    exec (.ctrInit arg) s = .next { s with ctr := ctr0 s.iv, ctrv := true, pend := none, done := true } := by
  rw [exec_completes hp, effectOf, State.finish, State.openStream]

/-- Settles O44: CTR_INIT has no check, and its effect writes CTR and CTRV; the effect of EXPAND_KEY clears CTRV. -/
theorem ctrInitCommand : Obligations.CtrInitCommand :=
  ⟨fun arg _ => ⟨rfl, fun hp => exec_issues (.ctrInit arg) hp, exec_completes_ctrInit⟩, by decide,
    fun _ s hp => ⟨_, exec_completes hp, State.writeSchedule_ctrv (expand s.key) s⟩⟩

/-- The completion of CTR_CHUNK (46_counter.md R266). -/
theorem exec_completes_ctrChunk {arg : Byte} {j : Instr} {s : State} (hp : s.pend = some j) :
    exec (.ctrChunk arg) s = .next { s with
      doutA := chunkOutput (argValue arg) s.dinA (encrypt s.rk s.ctr)
      ctr := ctrInc s.ctr
      ctrv := if argValue arg < 16 then false else s.ctrv
      pend := none
      done := true } := by
  rw [exec_completes hp, effectOf, State.finish, State.writeChunk]
  simp only [decide_eq_true_eq]

/-- CTR_CHUNK has no error of its own with a key, an open stream and a legal length (46_counter.md R266). -/
theorem ownError_ctrChunk {arg : Byte} {s : State} (hkv : s.kv = true) (hctrv : s.ctrv = true)
    (hlegal : 1 ≤ argValue arg ∧ argValue arg ≤ 16) : Spec.ownError (.ctrChunk arg) s = none := by
  rw [argValue] at hlegal
  rw [Spec.ownError, if_neg (ne_false_of_eq_true hkv), if_neg (ne_false_of_eq_true hctrv), if_neg (by omega)]

/-- Settles O45: the three checks of CTR_CHUNK in their order, and its effect on DOUT_A, CTR and CTRV. -/
theorem ctrChunkCommand : Obligations.CtrChunkCommand := by
  refine fun arg s => ⟨rfl, fun hp hkv hctrv hlow hhigh => ?accepts, fun hp hkv => ?noKey,
    fun hp hkv hctrv => ?noCounter, fun hp hkv hctrv hout => ?invalidLength, fun hp => ?completes⟩
  case accepts => exact exec_accepts hp (ownError_ctrChunk hkv hctrv ⟨hlow, hhigh⟩)
  case noKey => exact exec_rejects hp (if_pos hkv)
  case noCounter => exact exec_rejects hp ((if_neg (ne_false_of_eq_true hkv)).trans (if_pos hctrv))
  case invalidLength =>
    refine exec_rejects hp ?_
    rw [Spec.ownError, if_neg (ne_false_of_eq_true hkv), if_neg (ne_false_of_eq_true hctrv), if_pos hout]
  case completes => exact exec_completes_ctrChunk hp

/-! ## The outputs of a stream -/

/-- The outputs of chunks sent under the schedule `ks` from the counter `c` on (46_counter.md R262, R263). -/
def streamOutputs (ks : RoundKeys) : Block → List (Byte × Block) → List Block
  | _, [] => []
  | c, chunk :: cs =>
    chunkOutput (argValue chunk.1) chunk.2 (encrypt ks c) :: streamOutputs ks (ctrInc c) cs

theorem streamOutputs_length (ks : RoundKeys) (c : Block) (cs : List (Byte × Block)) :
    (streamOutputs ks c cs).length = cs.length := by
  induction cs generalizing c with
  | nil => rfl
  | cons chunk cs ih => rw [streamOutputs, List.length_cons, List.length_cons, ih]

/-- A chunk combined twice with one keystream block is the chunk, with 0x00 in the lanes it does not use
(46_counter.md R263, R267). -/
theorem chunkOutput_chunkOutput (chunk : Byte × Block) (ks : Block) :
    chunkOutput (argValue chunk.1) (chunkOutput (argValue chunk.1) chunk.2 ks) ks = Spec.chunkBytes chunk := by
  ext j h : 1
  simp only [chunkOutput_lane, argValue, Spec.chunkBytes, Vector.getElem_ofFn, Fin.getElem_fin]
  split
  · rw [BitVec.xor_assoc, BitVec.xor_self, BitVec.xor_zero]
  · rfl

/-- The outputs sent again with the same lengths from the same counter on give the message back (46_counter.md R267). -/
theorem streamOutputs_streamOutputs (ks : RoundKeys) (c : Block) (cs : List (Byte × Block)) :
    streamOutputs ks c ((cs.map Prod.fst).zip (streamOutputs ks c cs)) = cs.map Spec.chunkBytes := by
  induction cs generalizing c with
  | nil => rfl
  | cons chunk cs ih =>
    simp only [streamOutputs, List.map_cons, List.zip_cons_cons]
    rw [chunkOutput_chunkOutput, ih]

/-! ## Partitioned messages -/

/-- The first chunk of a partitioned message has a legal length, and a full one unless it is the last
(46_counter.md R264). -/
theorem partitioned_cons_iff {chunk : Byte × Block} {cs : List (Byte × Block)} :
    Spec.partitioned (chunk :: cs) = true ↔
      (1 ≤ argValue chunk.1 ∧ argValue chunk.1 ≤ 16) ∧ Spec.partitioned cs = true ∧
        (argValue chunk.1 = 16 ∨ cs = []) := by
  cases cs with
  | nil => simp [Spec.partitioned, argValue]
  | cons next rest =>
    have hfull : chunk.1 = 16 ↔ argValue chunk.1 = 16 := BitVec.toNat_inj.symm
    simp only [Spec.partitioned, Bool.and_eq_true, beq_iff_eq, hfull, reduceCtorEq, or_false]
    exact ⟨fun ⟨h16, hrest⟩ => ⟨by omega, hrest, h16⟩, fun ⟨_, hrest, h16⟩ => ⟨h16, hrest⟩⟩

/-- Being partitioned is a matter of the lengths alone (46_counter.md R264). -/
theorem partitioned_zip {cs : List (Byte × Block)} {outs : List Block} (h : Spec.partitioned cs = true)
    (hlength : outs.length = cs.length) : Spec.partitioned ((cs.map Prod.fst).zip outs) = true := by
  induction cs generalizing outs with
  | nil => rfl
  | cons chunk cs ih =>
    obtain ⟨out, outs, rfl⟩ := List.exists_cons_of_length_eq_add_one hlength
    obtain ⟨hlegal, hrest, hlast⟩ := partitioned_cons_iff.mp h
    rw [List.map_cons, List.zip_cons_cons, partitioned_cons_iff]
    refine ⟨hlegal, ih hrest (Nat.succ.inj hlength), hlast.imp_right ?_⟩
    rintro rfl
    rfl

/-! ## A stream sent through the block -/

/-- A CMD write that issues a command with no error of its own, and the engine's move after it, end in the completion of
the command (40_sequencer.md R130, R134). -/
theorem run_issue_complete {s : State} {op : Byte} {i : Instr} {rest : List Event}
    (he : s.events = .wr 0xF0 op :: .engine :: rest) (hp : s.pend = none) (hd : decodeOp op s.arg = some i)
    (hown : Spec.ownError i s = none) :
    Host.Core.run Sys2Proof.core 2 s = exec i { s with events := rest, done := false, pend := some i } := by
  have hown' : Spec.ownError i (s.withEvents (.engine :: rest)).clearDone = none := hown ▸ by cases i <;> rfl
  have hissue : step s = .next { s with events := .engine :: rest, done := false, pend := some i } :=
    (step_wr_cmd_legal he hp hd).trans (exec_accepts hp hown')
  rw [run_succ hissue, run_succ (step_engine rfl rfl), run_zero, exec_completes rfl]
  rfl

/-- The state after CTR_INIT was sent (46_counter.md R265). -/
def State.afterCtrInit (s : State) : State :=
  { s with events := [], ctr := ctr0 s.iv, ctrv := true, pend := none, done := true }

@[simp] theorem State.afterCtrInit_rk (s : State) : s.afterCtrInit.rk = s.rk := by
  rw [State.afterCtrInit]
@[simp] theorem State.afterCtrInit_ctr (s : State) : s.afterCtrInit.ctr = ctr0 s.iv := by
  rw [State.afterCtrInit]
@[simp] theorem State.afterCtrInit_kv (s : State) : s.afterCtrInit.kv = s.kv := by
  rw [State.afterCtrInit]

/-- CTR_INIT sent to an idle block (46_counter.md R265). -/
theorem run_ctrInit {s : State} (hp : s.pend = none) :
    Host.Core.run Sys2Proof.core 2 { s with events := [.wr 0xF0 0x50, .engine] } = .next s.afterCtrInit := by
  let placed : State := { s with events := [.wr 0xF0 0x50, .engine] }
  have hrun := run_issue_complete (s := placed) (i := .ctrInit s.arg) rfl hp rfl rfl
  exact hrun.trans (exec_completes_ctrInit rfl)

/-- The state after a chunk of `n` bytes was sent (46_counter.md R266). -/
def State.afterChunk (n : Byte) (data : Block) (s : State) : State :=
  { s with
    dinA := data
    events := []
    arg := n
    doutA := chunkOutput (argValue n) data (encrypt s.rk s.ctr)
    ctr := ctrInc s.ctr
    ctrv := if argValue n < 16 then false else s.ctrv
    pend := none
    done := true }

/-- A chunk of a legal length sent to an idle block with a key and an open stream (46_counter.md R266,
70_reset_and_hazards.md R315). -/
theorem run_ctrChunk {s : State} {n : Byte} {data : Block} (hp : s.pend = none) (hkv : s.kv = true)
    (hctrv : s.ctrv = true) (hlegal : 1 ≤ argValue n ∧ argValue n ≤ 16) :
    Host.Core.run Sys2Proof.core 3 { s with dinA := data, events := [.wr 0xF1 n, .wr 0xF0 0x51, .engine] } =
      .next (s.afterChunk n data) := by
  let placed : State := { s with dinA := data, events := [.wr 0xF1 n, .wr 0xF0 0x51, .engine] }
  let stored : State := { s with dinA := data, arg := n, events := [.wr 0xF0 0x51, .engine] }
  have hstore : step placed = .next stored := step_wr_idle (s := placed) rfl locate_arg rfl hp
  have hrun := run_issue_complete (s := stored) (i := .ctrChunk n) rfl hp rfl (ownError_ctrChunk hkv hctrv hlegal)
  exact (run_succ hstore).trans (hrun.trans (exec_completes_ctrChunk rfl))

/-- A full chunk leaves the stream open (46_counter.md R266). -/
theorem State.afterChunk_ctrv_full {n : Byte} (data : Block) (s : State) (hfull : argValue n = 16) :
    (s.afterChunk n data).ctrv = s.ctrv :=
  if_neg (by omega)

/-- Sent to an idle block with a key and, unless there are none, an open stream, the chunks of a partitioned message
give the outputs of the stream from CTR on (46_counter.md R266). -/
theorem sendChunks_eq (cs : List (Byte × Block)) (s : State) (hpart : Spec.partitioned cs = true)
    (hp : s.pend = none) (hkv : s.kv = true) (hopen : s.ctrv = true ∨ cs = []) :
    Spec.sendChunks cs s = some (streamOutputs s.rk s.ctr cs) := by
  induction cs generalizing s with
  | nil => rfl
  | cons chunk cs ih =>
    obtain ⟨hlegal, hrest, hlast⟩ := partitioned_cons_iff.mp hpart
    have hctrv : s.ctrv = true := hopen.resolve_right (List.cons_ne_nil chunk cs)
    have hopen' : (s.afterChunk chunk.1 chunk.2).ctrv = true ∨ cs = [] :=
      hlast.imp_left fun hfull => (State.afterChunk_ctrv_full chunk.2 s hfull).trans hctrv
    have htail := ih (s.afterChunk chunk.1 chunk.2) hrest rfl hkv hopen'
    rw [Spec.sendChunks, run_ctrChunk hp hkv hctrv hlegal]
    exact congrArg (Option.map _) htail

/-- A partitioned message sent to an idle block with a key gives the outputs of the stream of its IV
(46_counter.md R265, R266). -/
theorem sendStream_eq {cs : List (Byte × Block)} {s : State} (hpart : Spec.partitioned cs = true)
    (hp : s.pend = none) (hkv : s.kv = true) :
    Spec.sendStream cs s = some (streamOutputs s.rk (ctr0 s.iv) cs) := by
  rw [Spec.sendStream, run_ctrInit hp]
  simpa using sendChunks_eq cs s.afterCtrInit hpart rfl (by simpa using hkv) (.inl rfl)

/-- Settles O57: the outputs of a stream depend on RK, IV and the chunks alone, and combining a chunk twice with one
keystream block gives it back. -/
theorem streamIsItsOwnInverse : Obligations.StreamIsItsOwnInverse := by
  intro cs s s' hpart hp hkv hp' hkv' hrk hiv
  have hlength := streamOutputs_length s.rk (ctr0 s.iv) cs
  refine ⟨streamOutputs s.rk (ctr0 s.iv) cs, sendStream_eq hpart hp hkv, hlength, ?_⟩
  rw [sendStream_eq (partitioned_zip hpart hlength) hp' hkv', hrk, hiv, streamOutputs_streamOutputs]

end Sys2Proof.Machine
end

section
/-! Proofs of the statements about the errors (60_exceptions.md): what a step can make of ERR and ERRCODE, said once,
and from it that errors are synchronous and that the first one is kept. -/

namespace Sys2Proof.Machine

/-! ## What a step can make of ERR and ERRCODE -/

/-- Everything an event can make of ERR and ERRCODE: they are kept, a write of STATUS clears them, a write of CMD or a
dropped write of an input register records an error, or a reset clears them (60_exceptions.md R280, R282, R288). -/
inductive ErrorMove (s : State) : Event → State → Prop where
  | keep {e : Event} {t : State} (err : t.err = s.err) (errcode : t.errcode = s.errcode) : ErrorMove s e t
  | clear (v : Byte) : ErrorMove s (.wr 0xF2 v) (s.statusWrite v)
  | issue (op : Byte) (d : Bool) (e : ErrorKind) : ErrorMove s (.wr 0xF0 op) (State.recordError e { s with done := d })
  | drop {a : Byte} (v : Byte) (busy : s.pend ≠ none) (input : (locate a).isInput = true) :
      ErrorMove s (.wr a v) (s.recordError .busyErr)
  | reset : ErrorMove s .reset s.assertReset

/-- A write of CMD keeps ERR and ERRCODE or records an error, and then DONE may change (40_sequencer.md R130, R131). -/
theorem errorMove_of_issue {op : Byte} {s t : State} (h : issue op s = .next t) : ErrorMove s (.wr 0xF0 op) t := by
  obtain ⟨j, -, rfl⟩ | ⟨-, -, rfl⟩ | ⟨i, e, -, -, -, rfl⟩ | ⟨i, -, -, -, rfl⟩ := issue_cases h
  · exact .issue op s.done .busyErr
  · exact .issue op true .illegalCmd
  · exact .issue op true e
  · exact .keep rfl rfl

/-- A store leaves ERR and ERRCODE (20_memory.md R75). -/
theorem storeInput_errors (w : WindowReg) (v : Byte) (s : State) :
    (s.storeInput w v).err = s.err ∧ (s.storeInput w v).errcode = s.errcode := by
  cases w <;> exact ⟨rfl, rfl⟩

/-- A write records an error only at CMD, or where it is dropped (20_memory.md R75). -/
theorem errorMove_of_busWrite {a v : Byte} {s t : State} (h : busWrite a v s = .next t) : ErrorMove s (.wr a v) t := by
  by_cases hw : (locate a).isInput = true
  · rw [busWrite_input hw] at h
    cases hb : s.busy with
    | true =>
      rw [guardedStore_busy hb] at h
      cases h
      exact .drop v (State.busy_iff.mp hb) hw
    | false =>
      rw [guardedStore_idle hb] at h
      cases h
      obtain ⟨herr, hcode⟩ := storeInput_errors (locate a) v s
      exact .keep herr hcode
  by_cases hcmd : locate a = .cmd
  · obtain rfl := locate_eq_cmd hcmd
    exact errorMove_of_issue (by simpa only [busWrite, hcmd] using h)
  by_cases hstatus : locate a = .status
  · obtain rfl := locate_eq_status hstatus
    simp only [busWrite, hstatus] at h
    cases h
    exact .clear v
  rw [busWrite_ignored (Bool.eq_false_iff.mpr hw) hcmd hstatus] at h
  cases h
  exact .keep rfl rfl

/-- The engine's turn leaves ERR and ERRCODE: no error comes at a completion (60_exceptions.md R280). -/
theorem engine_errors {s t : State} (h : takeEvent .engine s = .next t) : t.err = s.err ∧ t.errcode = s.errcode := by
  obtain ⟨-, rfl⟩ | ⟨i, -, rfl⟩ := engine_cases h
  · exact ⟨rfl, rfl⟩
  · obtain ⟨-, -, -, -, -, -, herr, hcode, -⟩ := effectOf_frame i s
    exact ⟨herr, hcode⟩

/-- Event by event, what becomes of ERR and ERRCODE. -/
theorem errorMove_of_takeEvent {e : Event} {s t : State} (h : takeEvent e s = .next t) : ErrorMove s e t := by
  cases e with
  | rd a =>
    obtain ⟨b, n, hs⟩ := busRead_eq a s
    cases h
    exact hs ▸ .keep rfl rfl
  | wr a v => exact errorMove_of_busWrite h
  | poll turns =>
    obtain ⟨b, es, hs⟩ := waitTurn_eq turns s
    cases h
    exact hs ▸ .keep rfl rfl
  | reset => cases h; exact .reset
  | engine =>
    obtain ⟨herr, hcode⟩ := engine_errors h
    exact .keep herr hcode

/-- What a step makes of ERR and ERRCODE: with no event left they are kept, else it is the event's. -/
theorem step_errors {s t : State} (h : step s = .next t) :
    (t.err = s.err ∧ t.errcode = s.errcode) ∨
    ∃ e rest, s.events = e :: rest ∧ ErrorMove (s.withEvents rest) e t := by
  obtain ⟨-, ht⟩ | ⟨e, rest, he, ht⟩ := step_cases h
  · exact .inl (engine_errors ht)
  · exact .inr ⟨e, rest, he, errorMove_of_takeEvent ht⟩

/-! ## The statements -/

/-- A move of the engine leaves ERR and ERRCODE (60_exceptions.md R280). -/
theorem step_engineMoves_errors {s t : State} (hm : Spec.engineMoves s) (h : step s = .next t) :
    t.err = s.err ∧ t.errcode = s.errcode := by
  obtain he | ⟨rest, he⟩ := hm
  · exact engine_errors ((step_nil he).symm.trans h)
  · exact engine_errors (s := s.withEvents rest) ((step_cons he).symm.trans h)

/-- Settles O11: of the moves that can change ERR, only a write of CMD and a dropped write set it. -/
theorem errorsAreSynchronousAndNeverStop : Obligations.ErrorsAreSynchronousAndNeverStop := by
  refine ⟨step_answers, fun s t h hs ht => ?raised, fun s t => step_engineMoves_errors⟩
  have hkept : t.err ≠ s.err := by simp [hs, ht]
  obtain ⟨herr, -⟩ | ⟨e, rest, he, hmove⟩ := step_errors h
  · exact absurd herr hkept
  cases hmove with
  | keep herr => exact absurd herr hkept
  | clear v => simp [hs] at ht
  | issue op d e => exact ⟨0xF0, op, rest, he, rfl, fun _ => rfl, .inl rfl⟩
  | @drop a v busy input =>
    refine ⟨a, v, rest, he, rfl, fun hdone => absurd rfl hdone, .inr ⟨busy, ?_⟩⟩
    have haddr := (locate_isInput_iff a).mp input
    bv_omega
  | reset => cases ht

/-- Settles O12: of the moves that can change ERR or ERRCODE, an error recorded with ERR = 1 changes neither, and the
others are a reset and a write of STATUS with bit 2. -/
theorem firstErrorIsKept : Obligations.FirstErrorIsKept := by
  intro s t hs hreset hclear h
  obtain ⟨herr, hcode⟩ | ⟨e, rest, he, hmove⟩ := step_errors h
  · exact ⟨herr.trans hs, hcode⟩
  cases hmove with
  | keep herr hcode => exact ⟨herr.trans hs, hcode⟩
  | clear v =>
    have hbit : v.getLsbD 2 = false := Bool.eq_false_iff.mpr fun hv => hclear v rest hv he
    rw [State.statusWrite_err, State.statusWrite_errcode, hbit]
    simp [hs]
  | issue op d e => simp [hs]
  | drop v => simp [hs]
  | reset => exact absurd he (hreset rest)

end Sys2Proof.Machine
end
